-- ==== Sys2Proof/Word.lean ====
section
/-! DEFINITION. The words of the block: 8-bit data values and the 13-bit operation word (20_memory.md R63,
30_encoding.md R85). Bit 0 is the least significant bit; every value is unsigned (00_scope.md R13). -/

namespace Sys2Proof

/-- An 8-bit data value: FULLBRIGHT, PWM_CNT, PWM_CMP_BUF, PWM_CMP and the SET_DUTY operand (R63). -/
abbrev Byte := BitVec 8

/-- A 13-bit operation word UOP: opcode in bits 12..8, operand in bits 7..0 (R85). -/
abbrev OpWord := BitVec 13

end Sys2Proof
end

