-- ==== Sys2Proof/Config.lean ====
section
/-! DEFINITION. What an implementation fixes: the parameters of 00_scope.md R6 and R7, and the free values (the
input streams after the listed inputs run out; the duty of Off, which the spec does not define). -/

namespace Sys2Proof

/-- The parameters. The first four are the document's constants at "the source configuration" (R6); the last four
are open (R7), here with the spec's "default used in examples" (92_eei_decisions.md, last table).
DESIGN CHOICE, log entries 1 and 2: they are plain data beside the registers, so that every claim about all states is a
claim about all parameter values. -/
structure Params where
  /-- `DEBOUNCE_MS`, milliseconds (R6). -/
  debounceMs : Nat := 100
  /-- `STARTUP_MS`, milliseconds (R6). -/
  startupMs : Nat := 500
  /-- `FULL_BRIGHTNESS_DEFAULT`, duty counts: the reset value of FULLBRIGHT (R6, R22, U9). -/
  fullBrightnessDefault : Byte := 250
  /-- `PWM_TOP`, counts in one PWM period, 1..255 (R6, U10). -/
  pwmTop : Nat := 255
  /-- `TICKS_PER_MS`, at least 1 (R7, D1). -/
  ticksPerMs : Nat := 1
  /-- `PWM_DIV`, ticks per PWM count, at least 1 (R7, D10). -/
  pwmDiv : Nat := 1
  /-- `T_WAKE_IDLE`, ticks, at least 1 (R7, D17). -/
  tWakeIdle : Nat := 1
  /-- `T_WAKE_DEEP`, ticks, at least `T_WAKE_IDLE` (R7, D17). -/
  tWakeDeep : Nat := 1
  deriving DecidableEq, Repr

namespace Config

/-- FREE VALUE (log entry 3): the level of `btn` at the n-th clock edge, once no listed input is left. The environment
drives any stream (R39, U7). -/
opaque btnStream : Nat → Bool

/-- FREE VALUE (log entry 3): the level of `bg_tick` at the n-th clock edge, once no listed input is left (R39, U4). -/
opaque bgTickStream : Nat → Bool

/-- FREE VALUE (log entry 7): `duty(Off, fb)`, which "is not defined and is never evaluated" (40_mode_fsm.md R113). -/
opaque dutyOfOff : Byte → Byte

end Config

end Sys2Proof
end

