-- ==== Sys2Proof/Syntax.lean ====
section
/-! DEFINITION. The operations of the block: one constructor per row of spec/opcode_table.json (30_encoding.md R87),
in the table's order, and the raw operation word they are read from (R85). -/

namespace Sys2Proof

/-- A sleep depth, the 1-bit operand of REQ_SLEEP, SLEEP and WAKEUP and the value of PSTATE (30_encoding.md R82;
"two sleep depths and no others", 43_power.md R180). -/
inductive Depth where
  | idle
  | deepest
  deriving DecidableEq, Repr

/-- The 21 operations (R87). -/
inductive Instr where
  /-- `BG_START` (R185) -/
  | bgStart
  /-- `BG_STOP` (R184) -/
  | bgStop
  /-- `BG_RESTART` (R186) -/
  | bgRestart
  /-- `SELFTEST_ON` (R221) -/
  | selftestOn
  /-- `SELFTEST_WAIT` (R222) -/
  | selftestWait
  /-- `POLL` (R131) -/
  | poll
  /-- `DEBOUNCE` (R132) -/
  | debounce
  /-- `ADVANCE` (R111) -/
  | advance
  /-- `DISPATCH` (R112) -/
  | dispatch
  /-- `PWM_ENABLE` (R151) -/
  | pwmEnable
  /-- `PWM_DISABLE` (R152) -/
  | pwmDisable
  /-- `SET_DUTY v` (R153) -/
  | setDuty (v : Byte)
  /-- `REQ_SLEEP d` (R181) -/
  | reqSleep (d : Depth)
  /-- `ARM_WAKE` (R182) -/
  | armWake
  /-- `SELECT` (R183) -/
  | select
  /-- `SLEEP d` (R187) -/
  | sleep (d : Depth)
  /-- `WAKEUP d` (R188) -/
  | wakeup (d : Depth)
  /-- `CLI` (R189) -/
  | cli
  /-- `CLR_WAKE_FLAG` (R190) -/
  | clrWakeFlag
  /-- `DISARM_WAKE` (R191) -/
  | disarmWake
  /-- `SEI` (R192) -/
  | sei
  deriving DecidableEq, Repr

/-- A raw operation word split in its two fields (R85): any 13 bits, well formed or reserved. -/
structure Uop where
  /-- `OPC`, UOP[12:8]. -/
  opc : BitVec 5
  /-- `ARG`, UOP[7:0]. -/
  arg : Byte
  deriving DecidableEq, Repr

/-- The three operand shapes of R86. -/
inductive OperandShape where
  | noOperand
  | duty
  | depth
  deriving DecidableEq, Repr

end Sys2Proof
end

