-- ==== Sys2Proof/Machine/State.lean ====
section
/-! DEFINITION. The state of the block: the eighteen registers of 10_state.md R20, and three fields of the model's own
(the parameters, the pending inputs, the clock-edge count). Reset is R41. -/

namespace Sys2Proof.Machine

/-- The lighting modes, in the document's order (10_state.md R21). Codes 5 to 7 have no term (R90). -/
inductive Mode where
  | off
  | on
  | slowBlink
  | fastBlink
  | fade
  deriving DecidableEq, Repr

/-- The 24 sequencer states, in the order of their codes (30_encoding.md R84). Codes 24 to 31 have no term (R90). -/
inductive Seq where
  | sBootBg
  | sSelftestOn
  | sSelftestWt
  | sBootSei
  | sPoll
  | sDebounce
  | sAdvance
  | sDispatch
  | sOffPwm
  | sOffReq
  | sOnPwm
  | sOnDuty
  | sOnReq
  | sArm
  | sSelect
  | sDeepBg
  | sDeepPwm
  | sSleep
  | sWakeup
  | sWakeCli
  | sWakeClrf
  | sWakeDisarm
  | sWakeBg
  | sWakeSei
  deriving DecidableEq, Repr

/-- One sample of the input ports (10_state.md R39): `por`, the level of `btn` (true is 1, released), `bg_tick`. -/
structure Inputs where
  por : Bool := false
  btn : Bool
  bgTick : Bool
  deriving DecidableEq, Repr

/-- The two condition signals the sequencer reads (44_sequencer.md R220); `done` defaults to true and `taken` to false
(00_scope.md R15). -/
structure Signals where
  done : Bool := true
  taken : Bool := false
  deriving DecidableEq, Repr

/-- The names of the eighteen registers (10_state.md R21 to R38), for statements that range over registers. -/
inductive Reg where
  | mode
  | fullbright
  | pwmEn
  | pwmPre
  | pwmCnt
  | pwmCmpBuf
  | pwmCmp
  | ledForce
  | btnRaw
  | pressed
  | btnPrev
  | pcie
  | pcif
  | gie
  | bgRun
  | pstate
  | dly
  | seq
  deriving DecidableEq, Repr

/-- The state of the block. -/
structure State where
  /-- `MODE` (R21) -/
  mode : Mode
  /-- `FULLBRIGHT`, 8 bits (R22) -/
  fullbright : Byte
  /-- `PWM_EN`, 1 bit (R23) -/
  pwmEn : Bool
  /-- `PWM_PRE`, an unsigned integer in 0 .. PWM_DIV-1 (R24; log entry 13) -/
  pwmPre : Nat
  /-- `PWM_CNT`, 8 bits (R25) -/
  pwmCnt : Byte
  /-- `PWM_CMP_BUF`, 8 bits (R26) -/
  pwmCmpBuf : Byte
  /-- `PWM_CMP`, 8 bits (R27) -/
  pwmCmp : Byte
  /-- `LED_FORCE`, 1 bit (R28) -/
  ledForce : Bool
  /-- `BTN_RAW`, 1 bit, true is released (R29) -/
  btnRaw : Bool
  /-- `PRESSED`, 1 bit (R30) -/
  pressed : Bool
  /-- `BTN_PREV`, 1 bit, true is released (R31) -/
  btnPrev : Bool
  /-- `PCIE`, 1 bit (R32) -/
  pcie : Bool
  /-- `PCIF`, 1 bit (R33) -/
  pcif : Bool
  /-- `GIE`, 1 bit (R34) -/
  gie : Bool
  /-- `BG_RUN`, 1 bit (R35) -/
  bgRun : Bool
  /-- `PSTATE`, 1 bit (R36) -/
  pstate : Depth
  /-- `DLY`, an unsigned integer of DLY_W bits (R37; log entry 13) -/
  dly : Nat
  /-- `SEQ`, 5 bits (R38) -/
  seq : Seq
  /-- The model's own: the parameters (R6, R7), written by nothing (log entry 1). -/
  params : Params
  /-- The model's own: the samples of the input ports at the coming clock edges, this edge's first (log entry 3). -/
  inputs : List Inputs
  /-- The model's own: how many clock edges have passed, the index into the free input streams (log entry 3). -/
  edges : Nat
  deriving DecidableEq, Repr

/-- The block raises no fault: "it has no fault outcome" (60_exceptions.md R260). Nothing can raise one, so there is no
constructor; safe. -/
inductive Fault where
  deriving DecidableEq, Repr

/-- Why exec has no meaning for an operation. -/
inductive Refusal where
  /-- Raised by an arm of exec for an operation that is not modelled yet; safe. No arm raises it now. -/
  | notModelled (mnemonic : String)
  deriving DecidableEq, Repr

/-- The reset state σ(0) of a block with parameters `p` (10_state.md R41), with the inputs that the environment will
drive. FULLBRIGHT resets to FULL_BRIGHTNESS_DEFAULT (R22). -/
def State.resetWith (p : Params) (inputs : List Inputs) (edges : Nat) : State where
  mode := .off
  fullbright := p.fullBrightnessDefault
  pwmEn := false
  pwmPre := 0
  pwmCnt := 0
  pwmCmpBuf := 0
  pwmCmp := 0
  ledForce := false
  btnRaw := true
  pressed := false
  btnPrev := true
  pcie := false
  pcif := false
  gie := false
  bgRun := false
  pstate := .idle
  dly := 0
  seq := .sBootBg
  params := p
  inputs := inputs
  edges := edges

/-- The machine right after reset (R41) at the source configuration of R6 and the example values of R7. DESIGN CHOICE,
log entry 2: the four open parameters are 1; log entry 3: no input is listed, so every input is free. -/
def State.reset : State := State.resetWith {} [] 0

end Sys2Proof.Machine
end

