-- ==== Sys2Proof/Machine/Flags.lean ====
section
/-! DEFINITION. The inputs of this tick and the condition signals: the edge of the pin-change detector, the countdown,
the wake condition and the branch conditions. Every one reads the pre-tick state only (20_memory.md R64). -/

namespace Sys2Proof.Machine

/-- The sample of the input ports n clock edges from now: listed, or free once the list has run out
(10_state.md R39). DESIGN CHOICE, log entry 4: `por` is 0 in the free tail. -/
def State.inputAt (s : State) (n : Nat) : Inputs :=
  match s.inputs[n]? with
  | some i => i
  | none => { por := false, btn := Config.btnStream (s.edges + n), bgTick := Config.bgTickStream (s.edges + n) }

/-- `por` at this clock edge. -/
def State.por (s : State) : Bool := (s.inputAt 0).por

/-- `btn(t)`: true is 1, released; false is 0, pressed (41_button.md R130). -/
def State.btn (s : State) : Bool := (s.inputAt 0).btn

/-- `bg_tick(t)`. -/
def State.bgTick (s : State) : Bool := (s.inputAt 0).bgTick

/-- `edge = (btn ≠ BTN_PREV)`, both directions (41_button.md R134). -/
def State.edge (s : State) : Bool := s.btn != s.btnPrev

/-- The countdown shared by SELFTEST_WAIT, DEBOUNCE and WAKEUP (44_sequencer.md R222): done unless DLY > 1. -/
def State.countdownDone (s : State) : Bool := !decide (1 < s.dly)

/-- The next value of DLY under that countdown (R222). -/
def State.countdownDly (s : State) : Nat := if 1 < s.dly then s.dly - 1 else 0

/-- The wake condition of SLEEP (43_power.md R187). -/
def State.wake (s : State) : Bool :=
  s.gie && ((s.pcie && s.pcif) || (s.pstate == .idle && s.bgRun && s.bgTick))

/-- `taken` of POLL: the pin reads low (41_button.md R131). -/
def State.pollTaken (s : State) : Bool := !s.btn

/-- `taken` of DISPATCH: the mode is Off (40_mode_fsm.md R112). -/
def State.dispatchTaken (s : State) : Bool := s.mode == .off

/-- `taken` of SELECT: deepest sleep is requested (43_power.md R183). -/
def State.selectTaken (s : State) : Bool := s.pstate == .deepest

/-- The condition signals of an operation: `done` is false only while one of the four wait operations has not finished,
`taken` is defined by the three branching ones (44_sequencer.md R220). -/
def State.signals (s : State) : Instr → Signals
  | .selftestWait => { done := s.countdownDone }
  | .debounce => { done := s.countdownDone }
  | .wakeup _ => { done := s.countdownDone }
  | .sleep _ => { done := s.wake }
  | .poll => { taken := s.pollTaken }
  | .dispatch => { taken := s.dispatchTaken }
  | .select => { taken := s.selectTaken }
  | _ => {}

end Sys2Proof.Machine
end

