-- ==== Sys2Proof/WellFormed.lean ====
section
/-! DEFINITION. The checks of the spec on raw data: which operation words exist (30_encoding.md R86, R88, R89) and which
parameter values are allowed (00_scope.md R6, R7, R8). An `Instr` needs no check of its own: its operands are typed, so
a reserved word has no term. -/

namespace Sys2Proof

/-- Check R88: the opcode is one of 0x01 .. 0x15. -/
def Uop.opcodeDefined (u : Uop) : Bool := 0x01 ≤ u.opc.toNat && u.opc.toNat ≤ 0x15

/-- The operand shape of an opcode (R86): duty for SET_DUTY, depth for REQ_SLEEP, SLEEP and WAKEUP, none else. -/
def Uop.shape (u : Uop) : OperandShape :=
  match u.opc.toNat with
  | 0x0C => .duty
  | 0x0D => .depth
  | 0x10 => .depth
  | 0x11 => .depth
  | _ => .noOperand

/-- Check R89: the operand bits that the shape leaves unused are zero. -/
def Uop.operandFits (u : Uop) : Bool :=
  match u.shape with
  | .noOperand => u.arg == 0
  | .depth => u.arg.toNat < 2
  | .duty => true

/-- A well-formed operation word: neither reserved opcode (R88) nor reserved operand bits (R89). -/
def Uop.wf (u : Uop) : Bool := u.opcodeDefined && u.operandFits

/-- The allowed parameter values: R6 (`PWM_TOP` in 1..255), R7 (the four open ones), R8 (`DEBOUNCE_TICKS` and
`STARTUP_TICKS` at least 1). -/
def Params.wf (p : Params) : Bool :=
  1 ≤ p.debounceMs && 1 ≤ p.startupMs && 1 ≤ p.pwmTop && p.pwmTop ≤ 255 && 1 ≤ p.ticksPerMs && 1 ≤ p.pwmDiv &&
  1 ≤ p.tWakeIdle && p.tWakeIdle ≤ p.tWakeDeep

end Sys2Proof
end

