-- ==== Sys2Proof/Decode.lean ====
section
/-! DEFINITION. From operation words to operations and back (30_encoding.md R85 to R89). The decoder is total and
refuses a reserved word by name (R88, U1); the encoder is written from the same opcode map (R87). -/

namespace Sys2Proof

/-- Why a word names no operation. -/
inductive DecodeRefusal where
  /-- `OPC` 0x00 or 0x16 .. 0x1F (R88). -/
  | reservedOpcode (opc : BitVec 5)
  /-- Reserved operand bits are not zero (R89). -/
  | reservedOperand (opc : BitVec 5) (arg : Byte)
  /-- More than 13 bits: the word does not fit the one format of R85. -/
  | overWide
  /-- A serialised word is two bytes (log entry 12). -/
  | wrongLength (bytes : Nat)
  deriving DecidableEq, Repr

/-- The two fields of an operation word (R85). -/
def Uop.ofWord (w : OpWord) : Uop := ⟨w.extractLsb' 8 5, w.extractLsb' 0 8⟩

/-- The operation word of two fields (R85). -/
def Uop.toWord (u : Uop) : OpWord := u.opc ++ u.arg

/-- Shape (a) of R86: no operand, `ARG` must be 0x00. -/
def readNoOperand (u : Uop) (i : Instr) : Except DecodeRefusal Instr :=
  if u.arg = 0 then .ok i else .error (.reservedOperand u.opc u.arg)

/-- Shape (c) of R86: the depth is `ARG[0]` in the encoding of R82 and `ARG[7:1]` must be zero. -/
def readDepth (u : Uop) (k : Depth → Instr) : Except DecodeRefusal Instr :=
  match u.arg.toNat with
  | 0 => .ok (k .idle)
  | 1 => .ok (k .deepest)
  | _ => .error (.reservedOperand u.opc u.arg)

/-- The opcode map R87, read from left to right. -/
def decodeUop (u : Uop) : Except DecodeRefusal Instr :=
  match u.opc.toNat with
  | 0x01 => readNoOperand u .bgStart
  | 0x02 => readNoOperand u .bgStop
  | 0x03 => readNoOperand u .bgRestart
  | 0x04 => readNoOperand u .selftestOn
  | 0x05 => readNoOperand u .selftestWait
  | 0x06 => readNoOperand u .poll
  | 0x07 => readNoOperand u .debounce
  | 0x08 => readNoOperand u .advance
  | 0x09 => readNoOperand u .dispatch
  | 0x0A => readNoOperand u .pwmEnable
  | 0x0B => readNoOperand u .pwmDisable
  | 0x0C => .ok (.setDuty u.arg)
  | 0x0D => readDepth u .reqSleep
  | 0x0E => readNoOperand u .armWake
  | 0x0F => readNoOperand u .select
  | 0x10 => readDepth u .sleep
  | 0x11 => readDepth u .wakeup
  | 0x12 => readNoOperand u .cli
  | 0x13 => readNoOperand u .clrWakeFlag
  | 0x14 => readNoOperand u .disarmWake
  | 0x15 => readNoOperand u .sei
  | _ => .error (.reservedOpcode u.opc)

/-- The decoder of operation words: total, refusing reserved words by name (R88, R89). -/
def decode (w : OpWord) : Except DecodeRefusal Instr := decodeUop (Uop.ofWord w)

/-- The decoder on a serialised word. DESIGN CHOICE, log entry 12: two bytes, the low byte first, the three bits above
UOP[12] zero ("the order is the model's business", R63). -/
def decodeBytes (bs : List Byte) : Except DecodeRefusal Instr :=
  match bs with
  | [lo, hi] =>
    if hi.toNat < 0x20 then decode (BitVec.ofNat 13 (256 * hi.toNat + lo.toNat)) else .error .overWide
  | _ => .error (.wrongLength bs.length)

/-- The opcode of each operation (R87). -/
def Instr.opcode : Instr → BitVec 5
  | .bgStart => 0x01
  | .bgStop => 0x02
  | .bgRestart => 0x03
  | .selftestOn => 0x04
  | .selftestWait => 0x05
  | .poll => 0x06
  | .debounce => 0x07
  | .advance => 0x08
  | .dispatch => 0x09
  | .pwmEnable => 0x0A
  | .pwmDisable => 0x0B
  | .setDuty _ => 0x0C
  | .reqSleep _ => 0x0D
  | .armWake => 0x0E
  | .select => 0x0F
  | .sleep _ => 0x10
  | .wakeup _ => 0x11
  | .cli => 0x12
  | .clrWakeFlag => 0x13
  | .disarmWake => 0x14
  | .sei => 0x15

/-- The encoding of a depth, 1 bit (R82): 0 idle, 1 deepest. -/
def Depth.code : Depth → BitVec 1
  | .idle => 0
  | .deepest => 1

/-- The operand of each operation (R86). -/
def Instr.arg : Instr → Byte
  | .setDuty v => v
  | .reqSleep d => d.code.zeroExtend 8
  | .sleep d => d.code.zeroExtend 8
  | .wakeup d => d.code.zeroExtend 8
  | _ => 0

/-- The operation word of an operation (R85, R87). -/
def encode (i : Instr) : OpWord := Uop.toWord ⟨i.opcode, i.arg⟩

/-- The word serialised as `decodeBytes` reads it (log entry 12). -/
def encodeBytes (i : Instr) : List Byte :=
  [(encode i).extractLsb' 0 8, ((encode i).extractLsb' 8 5).zeroExtend 8]

/-- What the decoder reads from an instruction of `nbits` bits numbered as spec/opcode_table.json numbers them, every
bit above `nbits` being 0: the bits are laid out in bytes and given to `decodeBytes`. -/
def decodeTableWord (nbits w : Nat) : Option Instr :=
  let n := w % 2 ^ nbits
  if n < 2 ^ 16 then
    match decodeBytes [BitVec.ofNat 8 n, BitVec.ofNat 8 (n / 256)] with
    | .ok i => some i
    | .error _ => none
  else none

end Sys2Proof
end

