-- ==== Sys2Proof/Machine/Operands.lean ====
section
/-! DEFINITION. Operands and codes: the derived constants (00_scope.md R8), the value encodings (30_encoding.md R80 to
R84), the pure functions next_mode and duty (40_mode_fsm.md R110, R113), and the operation with its operand that each
sequencer state issues (R84). -/

namespace Sys2Proof

/-- `DEBOUNCE_TICKS = DEBOUNCE_MS * TICKS_PER_MS` (R8). -/
def Params.debounceTicks (p : Params) : Nat := p.debounceMs * p.ticksPerMs

/-- `STARTUP_TICKS = STARTUP_MS * TICKS_PER_MS` (R8). -/
def Params.startupTicks (p : Params) : Nat := p.startupMs * p.ticksPerMs

/-- `DLY_W`, the least integer with `2^DLY_W > max(STARTUP_TICKS, DEBOUNCE_TICKS, T_WAKE_DEEP)` (R8). -/
def Params.dlyWidth (p : Params) : Nat :=
  let m := max (max p.startupTicks p.debounceTicks) p.tWakeDeep
  if m = 0 then 0 else Nat.log2 m + 1

/-- The width of PWM_PRE, the least `w` with `2^w ≥ PWM_DIV` (10_state.md R24). -/
def Params.preWidth (p : Params) : Nat := if p.pwmDiv ≤ 1 then 0 else Nat.log2 (p.pwmDiv - 1) + 1

/-- One PWM period lasts `PWM_TOP * PWM_DIV` ticks (42_pwm.md R158). -/
def Params.pwmPeriod (p : Params) : Nat := p.pwmTop * p.pwmDiv

/-- The wake latency of a sleep depth (43_power.md R187, R188). -/
def Params.wakeLatency (p : Params) : Depth → Nat
  | .idle => p.tWakeIdle
  | .deepest => p.tWakeDeep

/-- Reading a depth code (R82). -/
def Depth.ofCode (c : BitVec 1) : Depth := if c = 0 then .idle else .deepest

namespace Machine

/-- The encoding of MODE, 3 bits (R80). -/
def Mode.code : Mode → BitVec 3
  | .off => 0
  | .on => 1
  | .slowBlink => 2
  | .fastBlink => 3
  | .fade => 4

/-- Reading a MODE code: 5, 6 and 7 are refused (R90). -/
def Mode.ofCode (c : BitVec 3) : Option Mode :=
  match c.toNat with
  | 0 => some .off
  | 1 => some .on
  | 2 => some .slowBlink
  | 3 => some .fastBlink
  | 4 => some .fade
  | _ => none

/-- The encoding of SEQ, 5 bits (R84). -/
def Seq.code : Seq → BitVec 5
  | .sBootBg => 0
  | .sSelftestOn => 1
  | .sSelftestWt => 2
  | .sBootSei => 3
  | .sPoll => 4
  | .sDebounce => 5
  | .sAdvance => 6
  | .sDispatch => 7
  | .sOffPwm => 8
  | .sOffReq => 9
  | .sOnPwm => 10
  | .sOnDuty => 11
  | .sOnReq => 12
  | .sArm => 13
  | .sSelect => 14
  | .sDeepBg => 15
  | .sDeepPwm => 16
  | .sSleep => 17
  | .sWakeup => 18
  | .sWakeCli => 19
  | .sWakeClrf => 20
  | .sWakeDisarm => 21
  | .sWakeBg => 22
  | .sWakeSei => 23

/-- The sequencer states in the order of their codes (R84). -/
def Seq.all : List Seq :=
  [.sBootBg, .sSelftestOn, .sSelftestWt, .sBootSei, .sPoll, .sDebounce, .sAdvance, .sDispatch, .sOffPwm, .sOffReq,
   .sOnPwm, .sOnDuty, .sOnReq, .sArm, .sSelect, .sDeepBg, .sDeepPwm, .sSleep, .sWakeup, .sWakeCli, .sWakeClrf,
   .sWakeDisarm, .sWakeBg, .sWakeSei]

/-- Reading a SEQ code: 24 to 31 are refused (R90). -/
def Seq.ofCode (c : BitVec 5) : Option Seq := Seq.all[c.toNat]?

/-- `next_mode`, the total function over the five modes (40_mode_fsm.md R110). -/
def nextMode : Mode → Mode
  | .off => .on
  | .on => .slowBlink
  | .slowBlink => .fastBlink
  | .fastBlink => .fade
  | .fade => .off

/-- The shift amount of the duty lookup, 2 bits; Off has none (30_encoding.md R81). -/
def shiftAmount : Mode → Option (BitVec 2)
  | .off => none
  | .on => some 0
  | .fade => some 1
  | .fastBlink => some 2
  | .slowBlink => some 3

/-- `duty(m, fb) = fb >> sh(m)`, the logical right shift (40_mode_fsm.md R113). DESIGN CHOICE, log entry 7:
`duty(Off, fb)`, which the spec leaves undefined, is a free value. -/
def duty (m : Mode) (fb : Byte) : Byte :=
  match shiftAmount m with
  | some k => fb >>> k.toNat
  | none => Config.dutyOfOff fb

/-- The operation that the sequencer issues in this state, with its operand (30_encoding.md R84). -/
def State.op (s : State) : Instr :=
  match s.seq with
  | .sBootBg => .bgStart
  | .sSelftestOn => .selftestOn
  | .sSelftestWt => .selftestWait
  | .sBootSei => .sei
  | .sPoll => .poll
  | .sDebounce => .debounce
  | .sAdvance => .advance
  | .sDispatch => .dispatch
  | .sOffPwm => .pwmDisable
  | .sOffReq => .reqSleep .deepest
  | .sOnPwm => .pwmEnable
  | .sOnDuty => .setDuty (duty s.mode s.fullbright)
  | .sOnReq => .reqSleep .idle
  | .sArm => .armWake
  | .sSelect => .select
  | .sDeepBg => .bgStop
  | .sDeepPwm => .pwmDisable
  | .sSleep => .sleep s.pstate
  | .sWakeup => .wakeup s.pstate
  | .sWakeCli => .cli
  | .sWakeClrf => .clrWakeFlag
  | .sWakeDisarm => .disarmWake
  | .sWakeBg => .bgRestart
  | .sWakeSei => .sei

/-- `op_trace(t)`: the operation word of the operation executed at this tick (44_sequencer.md R228). -/
def State.opTrace (s : State) : OpWord := encode s.op

/-- A register read as an unsigned number, in the encodings of R80, R82 and R84 (10_state.md R21 to R38). -/
def State.read (s : State) : Reg → Nat
  | .mode => s.mode.code.toNat
  | .fullbright => s.fullbright.toNat
  | .pwmEn => s.pwmEn.toNat
  | .pwmPre => s.pwmPre
  | .pwmCnt => s.pwmCnt.toNat
  | .pwmCmpBuf => s.pwmCmpBuf.toNat
  | .pwmCmp => s.pwmCmp.toNat
  | .ledForce => s.ledForce.toNat
  | .btnRaw => s.btnRaw.toNat
  | .pressed => s.pressed.toNat
  | .btnPrev => s.btnPrev.toNat
  | .pcie => s.pcie.toNat
  | .pcif => s.pcif.toNat
  | .gie => s.gie.toNat
  | .bgRun => s.bgRun.toNat
  | .pstate => s.pstate.code.toNat
  | .dly => s.dly
  | .seq => s.seq.code.toNat

end Machine

end Sys2Proof
end

