-- ==== Sys2Proof/Machine/Ops.lean ====
section
/-! DEFINITION. The shared operations of a tick: the free-running updates, the successor table, the closing of a tick
with its write priorities, wake entry (the block's only trap-like event), power-on reset, and placing the sequencer
so that it issues a given operation. -/

namespace Sys2Proof.Machine

/-- A wrap-around happens at this tick: rule R154 sets PWM_CNT from PWM_TOP - 1 to 0 (42_pwm.md R155 (a)). -/
def State.pwmWraps (s : State) : Bool :=
  s.pwmEn && s.pwmPre == s.params.pwmDiv - 1 && s.pwmCnt.toNat == s.params.pwmTop - 1

/-- The free-running PWM counter and the wrap-around latch of PWM_CMP (42_pwm.md R154, R155). -/
def State.pwmRun (s : State) : State :=
  if s.pwmEn then
    if s.pwmPre = s.params.pwmDiv - 1 then
      if s.pwmCnt.toNat = s.params.pwmTop - 1 then { s with pwmPre := 0, pwmCnt := 0, pwmCmp := s.pwmCmpBuf }
      else { s with pwmPre := 0, pwmCnt := s.pwmCnt + 1 }
    else { s with pwmPre := s.pwmPre + 1 }
  else s

/-- What happens at every tick whatever the operation: the PWM update (R154, R155), BTN_PREV follows the pin
(41_button.md R134), and the input sample of this edge is used up. PCIF is set last, in `State.finish`. -/
def State.freeRun (s : State) : State :=
  { s.pwmRun with btnPrev := s.btn, inputs := s.inputs.tail, edges := s.edges + 1 }

/-- The successor table (44_sequencer.md R223). Where the table shows a dash the signals are not consulted. -/
def successor (q : Seq) (sig : Signals) : Seq :=
  match q with
  | .sBootBg => .sSelftestOn
  | .sSelftestOn => .sSelftestWt
  | .sSelftestWt => if sig.done then .sBootSei else .sSelftestWt
  | .sBootSei => .sPoll
  | .sPoll => if sig.taken then .sDebounce else .sAdvance
  | .sDebounce => if sig.done then .sAdvance else .sDebounce
  | .sAdvance => .sDispatch
  | .sDispatch => if sig.taken then .sOffPwm else .sOnPwm
  | .sOffPwm => .sOffReq
  | .sOffReq => .sArm
  | .sOnPwm => .sOnDuty
  | .sOnDuty => .sOnReq
  | .sOnReq => .sArm
  | .sArm => .sSelect
  | .sSelect => if sig.taken then .sDeepBg else .sSleep
  | .sDeepBg => .sDeepPwm
  | .sDeepPwm => .sSleep
  | .sSleep => if sig.done then .sWakeup else .sSleep
  | .sWakeup => if sig.done then .sWakeCli else .sWakeup
  | .sWakeCli => .sWakeClrf
  | .sWakeClrf => .sWakeDisarm
  | .sWakeDisarm => .sWakeBg
  | .sWakeBg => .sWakeSei
  | .sWakeSei => .sPoll

/-- The close of a tick that began in `s` and whose writes so far gave `t`: SEQ takes its successor (R223), and the
detector sets PCIF when the pre-tick PCIE is 1 and the pin changed; the set wins over a clear (41_button.md R134,
20_memory.md R65 (b)). -/
def State.finish (s : State) (sig : Signals) (t : State) : State :=
  { t with seq := successor s.seq sig, pcif := t.pcif || (s.pcie && s.edge) }

/-- One tick with an operation whose writes are `write` (44_sequencer.md R227): the free-running updates, the
operation's writes over them (20_memory.md R65 (a)), then the close. `write` gets the state after the free-running
updates; what it reads, it reads from the pre-tick state. -/
def State.tick (s : State) (sig : Signals) (write : State → State) : State := s.finish sig (write s.freeRun)

/-- Wake entry, the writes of SLEEP (60_exceptions.md R267, 43_power.md R187): DLY is loaded with the wake latency when
the wake condition holds; nothing is saved; control goes on by the successor table, to S_WAKEUP. -/
def State.wakeEntry (s t : State) : State :=
  if s.wake then { t with dly := s.params.wakeLatency s.pstate } else t

/-- A clock edge with `por` = 1: every register takes its reset value (70_reset_and_hazards.md R290). DEDUCED, log
entry 5: the sample is used up, and the free input streams go on. -/
def State.powerOn (s : State) : State := State.resetWith s.params s.inputs.tail (s.edges + 1)

/-- The inputs with `por` released at this clock edge. -/
def releasePor : List Inputs → List Inputs
  | [] => []
  | i :: rest => { i with por := false } :: rest

/-- The sequencer placed so that it issues `i` at this tick: SEQ, and the registers from which R84 takes the operand.
It stands for the hardwired selection of an operation (log entry 11). -/
def State.issue (s : State) (i : Instr) : State :=
  let s := { s with inputs := releasePor s.inputs }
  match i with
  | .bgStart => { s with seq := .sBootBg }
  | .bgStop => { s with seq := .sDeepBg }
  | .bgRestart => { s with seq := .sWakeBg }
  | .selftestOn => { s with seq := .sSelftestOn }
  | .selftestWait => { s with seq := .sSelftestWt }
  | .poll => { s with seq := .sPoll }
  | .debounce => { s with seq := .sDebounce }
  | .advance => { s with seq := .sAdvance }
  | .dispatch => { s with seq := .sDispatch }
  | .pwmEnable => { s with seq := .sOnPwm }
  | .pwmDisable => { s with seq := .sOffPwm }
  | .setDuty v => { s with seq := .sOnDuty, mode := .on, fullbright := v }
  | .reqSleep .deepest => { s with seq := .sOffReq }
  | .reqSleep .idle => { s with seq := .sOnReq }
  | .armWake => { s with seq := .sArm }
  | .select => { s with seq := .sSelect }
  | .sleep d => { s with seq := .sSleep, pstate := d }
  | .wakeup d => { s with seq := .sWakeup, pstate := d }
  | .cli => { s with seq := .sWakeCli }
  | .clrWakeFlag => { s with seq := .sWakeClrf }
  | .disarmWake => { s with seq := .sWakeDisarm }
  | .sei => { s with seq := .sBootSei }

end Sys2Proof.Machine
end

