-- ==== Sys2Proof/Machine/Boot.lean ====
section
/-! DEFINITION. The boot operations SELFTEST_ON and SELFTEST_WAIT (44_sequencer.md). -/

namespace Sys2Proof.Machine

/-- `SELFTEST_ON` (R221): `LED_FORCE <- 1; DLY <- STARTUP_TICKS`. -/
def execSelftestOn (s : State) : Host.Outcome State Fault Refusal :=
  .next (s.tick (s.signals .selftestOn) fun t => { t with ledForce := true, dly := s.params.startupTicks })

/-- `SELFTEST_WAIT` (R222): the countdown, with expiry action `LED_FORCE <- 0`. -/
def execSelftestWait (s : State) : Host.Outcome State Fault Refusal :=
  .next (s.tick (s.signals .selftestWait) fun t =>
    if s.countdownDone then { t with dly := s.countdownDly, ledForce := false } else { t with dly := s.countdownDly })

end Sys2Proof.Machine
end

