-- ==== Sys2Proof/Machine/Button.lean ====
section
/-! DEFINITION. The Button Input's operations POLL and DEBOUNCE (41_button.md). The pin-change detector is in Ops. -/

namespace Sys2Proof.Machine

/-- `POLL` (R131): `BTN_RAW <- btn; PRESSED <- 0`; when the pin reads low, `DLY <- DEBOUNCE_TICKS`. -/
def execPoll (s : State) : Host.Outcome State Fault Refusal :=
  .next (s.tick (s.signals .poll) fun t =>
    { t with btnRaw := s.btn, pressed := false, dly := if s.btn then s.dly else s.params.debounceTicks })

/-- `DEBOUNCE` (R132): the countdown; at expiry `BTN_RAW <- btn; PRESSED <- (if btn = 0 then 1 else 0)`. -/
def execDebounce (s : State) : Host.Outcome State Fault Refusal :=
  .next (s.tick (s.signals .debounce) fun t =>
    if s.countdownDone then { t with dly := s.countdownDly, btnRaw := s.btn, pressed := !s.btn }
    else { t with dly := s.countdownDly })

end Sys2Proof.Machine
end

