-- ==== Sys2Proof/Machine/ModeFsm.lean ====
section
/-! DEFINITION. The Mode State Machine's operations ADVANCE and DISPATCH (40_mode_fsm.md). -/

namespace Sys2Proof.Machine

/-- `ADVANCE` (R111): `if PRESSED = 1 then MODE <- next_mode(MODE)`. -/
def execAdvance (s : State) : Host.Outcome State Fault Refusal :=
  .next (s.tick (s.signals .advance) fun t => { t with mode := if s.pressed then nextMode s.mode else s.mode })

/-- `DISPATCH` (R112): `taken = (MODE = Off)`; no datapath register is written. -/
def execDispatch (s : State) : Host.Outcome State Fault Refusal :=
  .next (s.tick (s.signals .dispatch) fun t => t)

end Sys2Proof.Machine
end

