-- ==== Sys2Proof/Machine/Power.lean ====
section
/-! DEFINITION. The Power Controller's operations: background timer, sleep request, arming, sleep and the wake protocol
(43_power.md). -/

namespace Sys2Proof.Machine

/-- `BG_START` (R185): `BG_RUN <- 1`. -/
def execBgStart (s : State) : Host.Outcome State Fault Refusal :=
  .next (s.tick (s.signals .bgStart) fun t => { t with bgRun := true })

/-- `BG_STOP` (R184): `BG_RUN <- 0`. -/
def execBgStop (s : State) : Host.Outcome State Fault Refusal :=
  .next (s.tick (s.signals .bgStop) fun t => { t with bgRun := false })

/-- `BG_RESTART` (R186): `if PSTATE = 1 then BG_RUN <- 1`. -/
def execBgRestart (s : State) : Host.Outcome State Fault Refusal :=
  .next (s.tick (s.signals .bgRestart) fun t =>
    match s.pstate with
    | .deepest => { t with bgRun := true }
    | .idle => t)

/-- `REQ_SLEEP d` (R181): `PSTATE <- d`. -/
def execReqSleep (d : Depth) (s : State) : Host.Outcome State Fault Refusal :=
  .next (s.tick (s.signals (.reqSleep d)) fun t => { t with pstate := d })

/-- `ARM_WAKE` (R182): `PCIE <- 1`. An edge in this tick is not recorded (R134 reads the pre-tick PCIE). -/
def execArmWake (s : State) : Host.Outcome State Fault Refusal :=
  .next (s.tick (s.signals .armWake) fun t => { t with pcie := true })

/-- `SELECT` (R183): `taken = (PSTATE = 1)`; no datapath register is written. -/
def execSelect (s : State) : Host.Outcome State Fault Refusal :=
  .next (s.tick (s.signals .select) fun t => t)

/-- `SLEEP d` (R187): stay until the wake condition holds, then wake entry. The depth is read from PSTATE, which the
operand shows (log entry 10). -/
def execSleep (d : Depth) (s : State) : Host.Outcome State Fault Refusal :=
  .next (s.tick (s.signals (.sleep d)) fun t => s.wakeEntry t)

/-- `WAKEUP d` (R188): the countdown of the wake latency. -/
def execWakeup (d : Depth) (s : State) : Host.Outcome State Fault Refusal :=
  .next (s.tick (s.signals (.wakeup d)) fun t => { t with dly := s.countdownDly })

/-- `CLI` (R189): `GIE <- 0`. -/
def execCli (s : State) : Host.Outcome State Fault Refusal :=
  .next (s.tick (s.signals .cli) fun t => { t with gie := false })

/-- `CLR_WAKE_FLAG` (R190): `PCIF <- 0`, unless the detector sets it in the same tick. -/
def execClrWakeFlag (s : State) : Host.Outcome State Fault Refusal :=
  .next (s.tick (s.signals .clrWakeFlag) fun t => { t with pcif := false })

/-- `DISARM_WAKE` (R191): `PCIE <- 0`; an edge in this tick is still recorded. -/
def execDisarmWake (s : State) : Host.Outcome State Fault Refusal :=
  .next (s.tick (s.signals .disarmWake) fun t => { t with pcie := false })

/-- `SEI` (R192): `GIE <- 1`. -/
def execSei (s : State) : Host.Outcome State Fault Refusal :=
  .next (s.tick (s.signals .sei) fun t => { t with gie := true })

end Sys2Proof.Machine
end

