-- ==== Sys2Proof/Machine/Pwm.lean ====
section
/-! DEFINITION. The Timer/PWM Driver's operations PWM_ENABLE, PWM_DISABLE and SET_DUTY (42_pwm.md). The counter and the latch are in
Ops. -/

namespace Sys2Proof.Machine

/-- `PWM_ENABLE` (R151): from disabled, start with the counter at zero and the buffered compare value; on an enabled
PWM nothing is written. -/
def execPwmEnable (s : State) : Host.Outcome State Fault Refusal :=
  .next (s.tick (s.signals .pwmEnable) fun t =>
    if s.pwmEn then t else { t with pwmEn := true, pwmPre := 0, pwmCnt := 0, pwmCmp := s.pwmCmpBuf })

/-- `PWM_DISABLE` (R152): `PWM_EN <- 0; PWM_PRE <- 0; PWM_CNT <- 0`, winning over the free-running update of the same
tick; PWM_CMP keeps its value. DEDUCED, log entry 6: also on a wrap-around tick (R65 (a), R154, R155, vector W9; the
listing of R227 reads otherwise). -/
def execPwmDisable (s : State) : Host.Outcome State Fault Refusal :=
  .next (s.tick (s.signals .pwmDisable) fun t =>
    { t with pwmEn := false, pwmPre := 0, pwmCnt := 0, pwmCmp := s.pwmCmp })

/-- `SET_DUTY v` (R153): `PWM_CMP_BUF <- v`. A wrap-around of the same tick latches the old buffer (R65). -/
def execSetDuty (v : Byte) (s : State) : Host.Outcome State Fault Refusal :=
  .next (s.tick (s.signals (.setDuty v)) fun t => { t with pwmCmpBuf := v })

end Sys2Proof.Machine
end

