-- ==== Sys2Proof/Machine/Dispatch.lean ====
section
/-! DEFINITION. One tick of the block with a given operation: one arm per constructor of Instr. -/

namespace Sys2Proof.Machine

def exec (i : Instr) (s : State) : Host.Outcome State Fault Refusal :=
  match i with
  | .bgStart => Sys2Proof.Machine.execBgStart s
  | .bgStop => Sys2Proof.Machine.execBgStop s
  | .bgRestart => Sys2Proof.Machine.execBgRestart s
  | .selftestOn => Sys2Proof.Machine.execSelftestOn s
  | .selftestWait => Sys2Proof.Machine.execSelftestWait s
  | .poll => Sys2Proof.Machine.execPoll s
  | .debounce => Sys2Proof.Machine.execDebounce s
  | .advance => Sys2Proof.Machine.execAdvance s
  | .dispatch => Sys2Proof.Machine.execDispatch s
  | .pwmEnable => Sys2Proof.Machine.execPwmEnable s
  | .pwmDisable => Sys2Proof.Machine.execPwmDisable s
  | .setDuty v => Sys2Proof.Machine.execSetDuty v s
  | .reqSleep d => Sys2Proof.Machine.execReqSleep d s
  | .armWake => Sys2Proof.Machine.execArmWake s
  | .select => Sys2Proof.Machine.execSelect s
  | .sleep d => Sys2Proof.Machine.execSleep d s
  | .wakeup d => Sys2Proof.Machine.execWakeup d s
  | .cli => Sys2Proof.Machine.execCli s
  | .clrWakeFlag => Sys2Proof.Machine.execClrWakeFlag s
  | .disarmWake => Sys2Proof.Machine.execDisarmWake s
  | .sei => Sys2Proof.Machine.execSei s

end Sys2Proof.Machine
end

