-- ==== Sys2Proof/Machine/Step.lean ====
section
/-! DEFINITION. One clock edge of the block (00_scope.md R9, 44_sequencer.md R227), and the state in which the sequencer
issues a given operation word next. -/

namespace Sys2Proof.Machine

/-- One clock edge: with `por` = 1 the block takes its reset state (70_reset_and_hazards.md R290); else it is a tick,
which executes the operation that SEQ names (R220). The inputs of the edge are the head of `inputs`. -/
def step (s : State) : Host.Outcome State Fault Refusal :=
  if s.por then .next s.powerOn else exec s.op s

/-- `s` with the sequencer placed so that the next step issues the operation word `w` (log entry 11). A word that the
decoder refuses names no operation: no state issues it (30_encoding.md R88), and `s` stays as it is. -/
def State.withFetchWord (s : State) (nbits w : Nat) : State :=
  match decodeTableWord nbits w with
  | some i => s.issue i
  | none => s

end Sys2Proof.Machine
end

