-- ==== Sys2Proof/Machine/Listing.lean ====
section
/-! DEFINITION. The one-page listing of 44_sequencer.md R227, transcribed line by line with nothing shared but the pure
functions. The machine does not use it: statements compare the machine with it. -/

namespace Sys2Proof.Machine

/-- Parts 1 and 2 of the listing: the pin-change detector's BTN_PREV, the PWM counter and the wrap-around latch. The
input sample of the tick is used up. -/
def listingFree (s : State) : State :=
  let s1 := { s with btnPrev := s.btn, inputs := s.inputs.tail, edges := s.edges + 1 }
  if s.pwmEn = true then
    if s.pwmPre = s.params.pwmDiv - 1 then
      if s.pwmCnt.toNat = s.params.pwmTop - 1 then { s1 with pwmPre := 0, pwmCnt := 0, pwmCmp := s.pwmCmpBuf }
      else { s1 with pwmPre := 0, pwmCnt := s.pwmCnt + 1 }
    else { s1 with pwmPre := s.pwmPre + 1 }
  else s1

/-- Part 3 of the listing: the operation of this state, `t` being the state after parts 1 and 2 and every right-hand
side reading `s`. -/
def listingOp (s t : State) : State :=
  match s.seq with
  | .sBootBg => { t with bgRun := true, seq := .sSelftestOn }
  | .sSelftestOn => { t with ledForce := true, dly := s.params.startupTicks, seq := .sSelftestWt }
  | .sSelftestWt =>
    if s.dly > 1 then { t with dly := s.dly - 1 } else { t with dly := 0, ledForce := false, seq := .sBootSei }
  | .sBootSei => { t with gie := true, seq := .sPoll }
  | .sPoll =>
    if s.btn = false then { t with btnRaw := s.btn, pressed := false, dly := s.params.debounceTicks, seq := .sDebounce }
    else { t with btnRaw := s.btn, pressed := false, seq := .sAdvance }
  | .sDebounce =>
    if s.dly > 1 then { t with dly := s.dly - 1 }
    else { t with dly := 0, btnRaw := s.btn, pressed := (if s.btn = false then true else false), seq := .sAdvance }
  | .sAdvance => if s.pressed = true then { t with mode := nextMode s.mode, seq := .sDispatch } else { t with seq := .sDispatch }
  | .sDispatch => if s.mode = .off then { t with seq := .sOffPwm } else { t with seq := .sOnPwm }
  | .sOffPwm => { t with pwmEn := false, pwmPre := 0, pwmCnt := 0, seq := .sOffReq }
  | .sOffReq => { t with pstate := .deepest, seq := .sArm }
  | .sOnPwm =>
    if s.pwmEn = false then { t with pwmEn := true, pwmPre := 0, pwmCnt := 0, pwmCmp := s.pwmCmpBuf, seq := .sOnDuty }
    else { t with seq := .sOnDuty }
  | .sOnDuty => { t with pwmCmpBuf := duty s.mode s.fullbright, seq := .sOnReq }
  | .sOnReq => { t with pstate := .idle, seq := .sArm }
  | .sArm => { t with pcie := true, seq := .sSelect }
  | .sSelect => if s.pstate = .deepest then { t with seq := .sDeepBg } else { t with seq := .sSleep }
  | .sDeepBg => { t with bgRun := false, seq := .sDeepPwm }
  | .sDeepPwm => { t with pwmEn := false, pwmPre := 0, pwmCnt := 0, seq := .sSleep }
  | .sSleep =>
    if s.gie = true ∧ ((s.pcie = true ∧ s.pcif = true) ∨ (s.pstate = .idle ∧ s.bgRun = true ∧ s.bgTick = true)) then
      { t with dly := (if s.pstate = .deepest then s.params.tWakeDeep else s.params.tWakeIdle), seq := .sWakeup }
    else t
  | .sWakeup => if s.dly > 1 then { t with dly := s.dly - 1 } else { t with dly := 0, seq := .sWakeCli }
  | .sWakeCli => { t with gie := false, seq := .sWakeClrf }
  | .sWakeClrf => { t with pcif := false, seq := .sWakeDisarm }
  | .sWakeDisarm => { t with pcie := false, seq := .sWakeBg }
  | .sWakeBg => if s.pstate = .deepest then { t with bgRun := true, seq := .sWakeSei } else { t with seq := .sWakeSei }
  | .sWakeSei => { t with gie := true, seq := .sPoll }

/-- Part 4 of the listing: `if PCIE = 1 and edge then PCIF <- 1`, with the pre-tick PCIE. -/
def listingFlag (s t : State) : State := if s.pcie = true ∧ s.btn ≠ s.btnPrev then { t with pcif := true } else t

/-- The whole listing of R227 for one tick. -/
def listingStep (s : State) : State := listingFlag s (listingOp s (listingFree s))

end Sys2Proof.Machine
end

