-- ==== Sys2Proof/Machine/Text.lean ====
section
/-! DEFINITION. The textual syntax of operations (30_encoding.md R91) and the pseudo-operations (R92). Nothing of the
machine depends on it: it names operations in traces. -/

namespace Sys2Proof

/-- The mnemonic of an operation (R87). -/
def Instr.mnemonic : Instr → String
  | .bgStart => "BG_START"
  | .bgStop => "BG_STOP"
  | .bgRestart => "BG_RESTART"
  | .selftestOn => "SELFTEST_ON"
  | .selftestWait => "SELFTEST_WAIT"
  | .poll => "POLL"
  | .debounce => "DEBOUNCE"
  | .advance => "ADVANCE"
  | .dispatch => "DISPATCH"
  | .pwmEnable => "PWM_ENABLE"
  | .pwmDisable => "PWM_DISABLE"
  | .setDuty _ => "SET_DUTY"
  | .reqSleep _ => "REQ_SLEEP"
  | .armWake => "ARM_WAKE"
  | .select => "SELECT"
  | .sleep _ => "SLEEP"
  | .wakeup _ => "WAKEUP"
  | .cli => "CLI"
  | .clrWakeFlag => "CLR_WAKE_FLAG"
  | .disarmWake => "DISARM_WAKE"
  | .sei => "SEI"

/-- The operand written after the mnemonic, for the operations that have one (R91). -/
def Instr.operand : Instr → Option Nat
  | .setDuty v => some v.toNat
  | .reqSleep d => some d.code.toNat
  | .sleep d => some d.code.toNat
  | .wakeup d => some d.code.toNat
  | _ => none

/-- An operation as text: the mnemonic, then the operand in decimal if it has one (R91). -/
def Instr.text (i : Instr) : String :=
  match i.operand with
  | some n => i.mnemonic ++ " " ++ toString n
  | none => i.mnemonic

/-- Why a line of text names no operation. -/
inductive TextRefusal where
  | unknownOperation
  | badNumber
  | operandRange
  deriving DecidableEq, Repr

/-- The operations without an operand (R86 (a)). -/
def plainOperations : List Instr :=
  [.bgStart, .bgStop, .bgRestart, .selftestOn, .selftestWait, .poll, .debounce, .advance, .dispatch, .pwmEnable,
   .pwmDisable, .armWake, .select, .cli, .clrWakeFlag, .disarmWake, .sei]

/-- A line up to its comment, which `;` starts (R91). -/
def cutComment : List Char → List Char
  | [] => []
  | c :: cs => if c = ';' then [] else c :: cutComment cs

/-- The words of a line, separated by blanks; `cur` is the word begun so far (log entry 14). -/
def wordsFrom (cur : List Char) : List Char → List (List Char)
  | [] => if cur = [] then [] else [cur]
  | c :: cs =>
    if c = ' ' ∨ c = '\t' then (if cur = [] then wordsFrom [] cs else cur :: wordsFrom [] cs)
    else wordsFrom (cur ++ [c]) cs

/-- The value of a digit in a base up to 16 (log entry 14: hexadecimal digits in either case). -/
def digitValue (base : Nat) (c : Char) : Option Nat :=
  let n := c.toNat
  let v := if 48 ≤ n ∧ n ≤ 57 then n - 48
    else if 65 ≤ n ∧ n ≤ 70 then n - 55
    else if 97 ≤ n ∧ n ≤ 102 then n - 87
    else 16
  if v < base then some v else none

/-- The number written by some digits, most significant first. -/
def digitsValue (base acc : Nat) : List Char → Option Nat
  | [] => some acc
  | c :: cs =>
    match digitValue base c with
    | some v => digitsValue base (acc * base + v) cs
    | none => none

/-- A number in decimal or `0x` hexadecimal (R91). -/
def readNumber : List Char → Option Nat
  | [] => none
  | ['0', 'x'] => none
  | '0' :: 'x' :: ds => digitsValue 16 0 ds
  | ds => digitsValue 10 0 ds

/-- An operation with an operand, from its mnemonic and the operand's value (R86 (b), (c)). -/
def operationWith (m : List Char) (n : Nat) : Except TextRefusal Instr :=
  let depth (k : Depth → Instr) : Except TextRefusal Instr :=
    match n with
    | 0 => .ok (k .idle)
    | 1 => .ok (k .deepest)
    | _ => .error .operandRange
  if m = "SET_DUTY".toList then (if n < 256 then .ok (.setDuty (BitVec.ofNat 8 n)) else .error .operandRange)
  else if m = "REQ_SLEEP".toList then depth .reqSleep
  else if m = "SLEEP".toList then depth .sleep
  else if m = "WAKEUP".toList then depth .wakeup
  else .error .unknownOperation

/-- One line of text (R91): an operation, or none for a line that holds a comment only. -/
def parseLine (line : String) : Except TextRefusal (Option Instr) :=
  match wordsFrom [] (cutComment line.toList) with
  | [] => .ok none
  | [m] =>
    match plainOperations.find? fun i => i.mnemonic.toList == m with
    | some i => .ok (some i)
    | none => .error .unknownOperation
  | [m, ds] =>
    match readNumber ds with
    | none => .error .badNumber
    | some n =>
      match operationWith m n with
      | .ok i => .ok (some i)
      | .error e => .error e
  | _ => .error .unknownOperation

/-- The document's function names (R92). -/
inductive Pseudo where
  | pollButton
  | advanceMode
  | pwmEnable
  | pwmDisable
  | setDuty (v : Byte)
  | armWakeInterrupt
  | enterIdleSleep
  | enterDeepSleep
  | disarmWakeInterrupt
  | wakeProtocol
  | startUpSelfTest
  deriving DecidableEq, Repr

/-- One item of an expansion (R92). -/
inductive PseudoItem where
  /-- the operation, once -/
  | once (i : Instr)
  /-- the operation, repeated until it is done -/
  | untilDone (i : Instr)
  /-- the operation, repeated until it is done, if the item before it was taken -/
  | untilDoneIfTaken (i : Instr)
  deriving DecidableEq, Repr

/-- The expansion of each pseudo-operation, in order (R92). `wakeProtocol` is the row "wake protocol, steps 3 to 7". -/
def Pseudo.expand : Pseudo → List PseudoItem
  | .pollButton => [.once .poll, .untilDoneIfTaken .debounce]
  | .advanceMode => [.once .advance]
  | .pwmEnable => [.once .pwmEnable]
  | .pwmDisable => [.once .pwmDisable]
  | .setDuty v => [.once (.setDuty v)]
  | .armWakeInterrupt => [.once .armWake]
  | .enterIdleSleep => [.once .select, .untilDone (.sleep .idle), .untilDone (.wakeup .idle)]
  | .enterDeepSleep =>
    [.once .select, .once .bgStop, .once .pwmDisable, .untilDone (.sleep .deepest), .untilDone (.wakeup .deepest)]
  | .disarmWakeInterrupt => [.once .clrWakeFlag, .once .disarmWake]
  | .wakeProtocol => [.once .cli, .once .clrWakeFlag, .once .disarmWake, .once .bgRestart, .once .sei]
  | .startUpSelfTest => [.once .selftestOn, .untilDone .selftestWait]

end Sys2Proof
end

