-- ==== Sys2Proof/Machine/Outputs.lean ====
section
/-! DEFINITION. The output ports, functions of the state alone (10_state.md R40, 44_sequencer.md R227), and the three
power states behind them (60_exceptions.md R273). -/

namespace Sys2Proof.Machine

/-- The three power states (60_exceptions.md R273). -/
inductive PowerState where
  | awake
  | idleSleep
  | deepestSleep
  deriving DecidableEq, Repr

/-- The values on the output ports at one tick (R40). -/
structure Outputs where
  led : Bool
  pwmEn : Bool
  bgRun : Bool
  sleepO : BitVec 2
  periphClkEn : Bool
  opTrace : OpWord
  deriving DecidableEq, Repr

/-- Asleep in S_SLEEP and S_WAKEUP, at the depth PSTATE (43_power.md R195). -/
def State.powerState (s : State) : PowerState :=
  match s.seq, s.pstate with
  | .sSleep, .idle => .idleSleep
  | .sSleep, .deepest => .deepestSleep
  | .sWakeup, .idle => .idleSleep
  | .sWakeup, .deepest => .deepestSleep
  | _, _ => .awake

/-- The encoding of `sleep_o`, 2 bits (30_encoding.md R83). -/
def sleepCode : PowerState → BitVec 2
  | .awake => 0b00
  | .idleSleep => 0b01
  | .deepestSleep => 0b10

/-- The comparator: `pwm_out = (PWM_EN = 1 and PWM_CNT < PWM_CMP)` (42_pwm.md R156). -/
def State.pwmOut (s : State) : Bool := s.pwmEn && decide (s.pwmCnt.toNat < s.pwmCmp.toNat)

/-- `led = (LED_FORCE = 1 or pwm_out)` (42_pwm.md R156). -/
def State.led (s : State) : Bool := s.ledForce || s.pwmOut

/-- `sleep_o` (43_power.md R195). -/
def State.sleepO (s : State) : BitVec 2 := sleepCode s.powerState

/-- `periph_clk_en` is 0 exactly when `sleep_o = 0b10` (43_power.md R195). -/
def State.periphClkEn (s : State) : Bool := s.sleepO != 0b10

/-- All output ports at one tick (R40). -/
def State.outputs (s : State) : Outputs where
  led := s.led
  pwmEn := s.pwmEn
  bgRun := s.bgRun
  sleepO := s.sleepO
  periphClkEn := s.periphClkEn
  opTrace := s.opTrace

end Sys2Proof.Machine
end

