-- ==== Sys2Proof/Safety.lean ====
section
/-! DEFINITION. What a run is and what a safe state is, in the terms statements use: σ(t) (00_scope.md R9), the facts
of 10_state.md R45, and a stronger predicate that every clock edge keeps. -/

namespace Sys2Proof.Machine

/-- The state after one clock edge; `s` itself if the step stopped (it never does). -/
def State.next (s : State) : State :=
  match step s with
  | .next t => t
  | _ => s

/-- σ(n), the state n clock edges after `s` (00_scope.md R9). -/
def State.sigma (s : State) : Nat → State
  | 0 => s
  | n + 1 => (s.sigma n).next

/-- `por` stays 0 for the next n clock edges, so that each of them is a tick (70_reset_and_hazards.md R290). -/
def State.Powered (s : State) (n : Nat) : Prop := ∀ j, j < n → (s.inputAt j).por = false

/-- The register values that U2 of 93_implementation_defined.md excludes do not occur, and the parameters are allowed
ones (00_scope.md R6, R7). -/
structure State.InRange (s : State) : Prop where
  params : s.params.wf = true
  cnt : s.pwmCnt.toNat < s.params.pwmTop
  pre : s.pwmPre < s.params.pwmDiv

/-- The values that a compare register can hold (10_state.md R45 (i)). -/
def dutyValues (fb : Byte) : List Byte := [0, fb, fb >>> 1, fb >>> 2, fb >>> 3]

/-- The consequences (a) to (i) of 10_state.md R45. -/
structure State.Facts (s : State) : Prop where
  a_mode : s.mode.code.toNat < 5
  b_cnt : s.pwmCnt.toNat < s.params.pwmTop
  b_pre : s.pwmPre < s.params.pwmDiv
  c_seq : s.seq.code.toNat ≤ 23
  d_stopped : s.pwmEn = false → s.pwmCnt = 0 ∧ s.pwmPre = 0
  e_armed : s.seq = .sSleep → s.pcie = true ∧ s.gie = true
  f_deepest : (s.seq = .sSleep ∨ s.seq = .sWakeup) → s.pstate = .deepest →
    s.pwmEn = false ∧ s.bgRun = false ∧ s.mode = .off
  g_idle : (s.seq = .sSleep ∨ s.seq = .sWakeup) → s.pstate = .idle → s.pwmEn = true ∧ s.bgRun = true ∧ s.mode ≠ .off
  h_led : s.ledForce = true → s.seq = .sSelftestWt
  i_buf : s.pwmCmpBuf ∈ dutyValues s.fullbright
  i_cmp : s.pwmCmp ∈ dutyValues s.fullbright

/-- GIE in each sequencer state: 0 until S_BOOT_SEI has run and from the tick after CLI to the tick of SEI
(60_exceptions.md R265). -/
def gieAt : Seq → Bool
  | .sBootBg => false
  | .sSelftestOn => false
  | .sSelftestWt => false
  | .sBootSei => false
  | .sWakeClrf => false
  | .sWakeDisarm => false
  | .sWakeBg => false
  | .sWakeSei => false
  | _ => true

/-- PCIE in each sequencer state: armed from the tick after ARM_WAKE to the tick of DISARM_WAKE
(70_reset_and_hazards.md R303). -/
def pcieAt : Seq → Bool
  | .sSelect => true
  | .sDeepBg => true
  | .sDeepPwm => true
  | .sSleep => true
  | .sWakeup => true
  | .sWakeCli => true
  | .sWakeClrf => true
  | .sWakeDisarm => true
  | _ => false

/-- BG_RUN in each sequencer state: the timer runs after boot, except between BG_STOP and BG_RESTART
(60_exceptions.md R273). -/
def bgRunAt : Seq → Depth → Bool
  | .sBootBg, _ => false
  | .sDeepPwm, _ => false
  | .sSleep, d => d == .idle
  | .sWakeup, d => d == .idle
  | .sWakeCli, d => d == .idle
  | .sWakeClrf, d => d == .idle
  | .sWakeDisarm, d => d == .idle
  | .sWakeBg, d => d == .idle
  | _, _ => true

/-- The sequencer states in which PSTATE holds the depth that the mode asks for: from S_ARM to S_WAKE_SEI
(43_power.md R181). -/
def depthSettledAt (q : Seq) : Bool := decide (13 ≤ q.code.toNat)

/-- The sequencer states in which the PWM is enabled exactly in a driving mode: all but S_DISPATCH, S_OFF_PWM and
S_ON_PWM, which lie between the advance and the directive (40_mode_fsm.md R114). -/
def pwmSettledAt (q : Seq) : Bool := q != .sDispatch && q != .sOffPwm && q != .sOnPwm

/-- The sequencer states in which the compare buffer holds the duty of the mode, in a driving mode: after S_ON_DUTY up
to the next advance (40_mode_fsm.md R114). -/
def dutySettledAt (q : Seq) : Bool :=
  q == .sOnReq || depthSettledAt q || q == .sPoll || q == .sDebounce || q == .sAdvance

/-- The modes that each sequencer state can have: Off through boot and on the Off path, a driving mode on the other. -/
def modeFitsAt : Seq → Mode → Bool
  | .sBootBg, m => m == .off
  | .sSelftestOn, m => m == .off
  | .sSelftestWt, m => m == .off
  | .sBootSei, m => m == .off
  | .sOffPwm, m => m == .off
  | .sOffReq, m => m == .off
  | .sDeepBg, m => m == .off
  | .sDeepPwm, m => m == .off
  | .sOnPwm, m => m != .off
  | .sOnDuty, m => m != .off
  | .sOnReq, m => m != .off
  | _, _ => true

/-- The largest value that DLY has in each sequencer state, 0 outside the bounded waits (10_state.md R37). -/
def dlyMaxAt (p : Params) (d : Depth) : Seq → Nat
  | .sSelftestWt => p.startupTicks
  | .sDebounce => p.debounceTicks
  | .sWakeup => p.wakeLatency d
  | _ => 0

/-- The sequencer states of the three bounded waits (44_sequencer.md R222). -/
def boundedWaitAt (q : Seq) : Bool := q == .sSelftestWt || q == .sDebounce || q == .sWakeup

/-- What holds of every state of a run from reset, strong enough for every clock edge to keep it. -/
structure State.Inv (s : State) : Prop where
  inRange : s.InRange
  stopped : s.pwmEn = false → s.pwmCnt = 0 ∧ s.pwmPre = 0
  fullbright : s.fullbright = s.params.fullBrightnessDefault
  led : s.ledForce = (s.seq == .sSelftestWt)
  gie : s.gie = gieAt s.seq
  pcie : s.pcie = pcieAt s.seq
  bgRun : s.bgRun = bgRunAt s.seq s.pstate
  depth : depthSettledAt s.seq = true → (s.pstate = .deepest ↔ s.mode = .off)
  pwm : pwmSettledAt s.seq = true → (s.pwmEn = true ↔ s.mode ≠ .off)
  mode : modeFitsAt s.seq s.mode = true
  duty : dutySettledAt s.seq = true → s.mode ≠ .off → s.pwmCmpBuf = duty s.mode s.fullbright
  dlyMax : s.dly ≤ dlyMaxAt s.params s.pstate s.seq
  dlyMin : boundedWaitAt s.seq = true → 1 ≤ s.dly
  buf : s.pwmCmpBuf ∈ dutyValues s.fullbright
  cmp : s.pwmCmp ∈ dutyValues s.fullbright

/-! What a tick does besides the operation, as relations between the state before and after it. -/

/-- The input sample is used up, BTN_PREV follows the pin (41_button.md R134) and the parameters stand. -/
structure Sampled (s t : State) : Prop where
  btnPrev : t.btnPrev = s.btn
  params : t.params = s.params
  inputs : t.inputs = s.inputs.tail
  edges : t.edges = s.edges + 1

/-- PCIF is set by an edge while armed and kept otherwise (41_button.md R134). -/
def FlagSetOrKept (s t : State) : Prop := t.pcif = (s.pcif || (s.pcie && s.edge))

/-- The PWM counter, prescaler and active compare register went through the free-running update
(42_pwm.md R154, R155). -/
structure PwmRan (s t : State) : Prop where
  pre : t.pwmPre = s.pwmRun.pwmPre
  cnt : t.pwmCnt = s.pwmRun.pwmCnt
  cmp : t.pwmCmp = s.pwmRun.pwmCmp

/-- Everything that a tick does besides an operation that touches neither the PWM counter nor PCIF. -/
structure Background (s t : State) : Prop where
  sampled : Sampled s t
  flag : FlagSetOrKept s t
  pwm : PwmRan s t

/-- The registers that a tick writes whatever the operation (10_state.md R42). -/
def backgroundRegs : List Reg := [.btnPrev, .pcif, .pwmPre, .pwmCnt, .pwmCmp, .seq]

/-- Every register reads as before, except those listed and those that every tick writes. -/
def Kept (s t : State) (written : List Reg) : Prop :=
  ∀ r : Reg, r ∉ written → r ∉ backgroundRegs → t.read r = s.read r

/-- The operation is executed in this sequencer state and in no other (30_encoding.md R84). -/
def IssuedAt (i : Instr) (q : Seq) : Prop := ∀ s : State, s.op = i ↔ s.seq = q

/-- The write-ownership table of 10_state.md R42: whether an operation may write a register. The free-running writers
(counter update, compare latch, detector, sequencer) are in `backgroundRegs`. -/
def ownedBy : Reg → Instr → Bool
  | .mode, .advance => true
  | .pwmEn, .pwmEnable => true
  | .pwmEn, .pwmDisable => true
  | .pwmPre, .pwmEnable => true
  | .pwmPre, .pwmDisable => true
  | .pwmCnt, .pwmEnable => true
  | .pwmCnt, .pwmDisable => true
  | .pwmCmpBuf, .setDuty _ => true
  | .pwmCmp, .pwmEnable => true
  | .ledForce, .selftestOn => true
  | .ledForce, .selftestWait => true
  | .btnRaw, .poll => true
  | .btnRaw, .debounce => true
  | .pressed, .poll => true
  | .pressed, .debounce => true
  | .pcie, .armWake => true
  | .pcie, .disarmWake => true
  | .pcif, .clrWakeFlag => true
  | .gie, .cli => true
  | .gie, .sei => true
  | .bgRun, .bgStart => true
  | .bgRun, .bgStop => true
  | .bgRun, .bgRestart => true
  | .pstate, .reqSleep _ => true
  | .dly, .selftestOn => true
  | .dly, .selftestWait => true
  | .dly, .poll => true
  | .dly, .debounce => true
  | .dly, .sleep _ => true
  | .dly, .wakeup _ => true
  | _, _ => false

/-- The registers of the Timer/PWM Driver (42_pwm.md R150). -/
def pwmRegs : List Reg := [.pwmEn, .pwmPre, .pwmCnt, .pwmCmpBuf, .pwmCmp]

/-- How many of the next n clock edges have `led` high just before them. -/
def State.highTicks (s : State) : Nat → Nat
  | 0 => 0
  | n + 1 => s.highTicks n + (s.sigma n).led.toNat

/-- How many presses are confirmed in the next n clock edges: ticks of S_ADVANCE with PRESSED = 1. -/
def State.confirmed (s : State) : Nat → Nat
  | 0 => 0
  | n + 1 => s.confirmed n + ((s.sigma n).seq == .sAdvance && (s.sigma n).pressed).toNat

/-- The PWM part of the state alone, run for n ticks with no operation at all. -/
def State.pwmAlone (s : State) : Nat → State
  | 0 => s
  | n + 1 => (s.pwmAlone n).pwmRun

end Sys2Proof.Machine
end

