-- ==== Sys2Proof/Certificates/Slice0/Obligations.lean ====
section
/-! DEFINITION. The statements about the model, for the provers. -/

open Sys2Proof Sys2Proof.Machine

/-! ## Operations, one tick each: what the operation writes, what else the tick does, what stays -/

/-- R184, R185, R186: BG_START and BG_STOP write BG_RUN, which the port bg_run follows; BG_RESTART sets it only when
PSTATE is deepest. -/
def Obligations.TimerControlsDriveBgRun : Prop :=
  (encode .bgStart = 0x0100 ∧ IssuedAt .bgStart .sBootBg ∧
    ∀ s : State, ∃ t, exec .bgStart s = .next t ∧ t.bgRun = true ∧ t.outputs.bgRun = true ∧ Background s t ∧
      Kept s t [.bgRun] ∧ (s.seq = .sBootBg → t.seq = .sSelftestOn)) ∧
  (encode .bgStop = 0x0200 ∧ IssuedAt .bgStop .sDeepBg ∧
    ∀ s : State, ∃ t, exec .bgStop s = .next t ∧ t.bgRun = false ∧ t.outputs.bgRun = false ∧ Background s t ∧
      Kept s t [.bgRun] ∧ (s.seq = .sDeepBg → t.seq = .sDeepPwm)) ∧
  (encode .bgRestart = 0x0300 ∧ IssuedAt .bgRestart .sWakeBg ∧
    ∀ s : State, ∃ t, exec .bgRestart s = .next t ∧ t.bgRun = (if s.pstate = .deepest then true else s.bgRun) ∧
      Background s t ∧ Kept s t [.bgRun] ∧ (s.seq = .sWakeBg → t.seq = .sWakeSei))

/-- R221: SELFTEST_ON forces the LED and loads DLY. -/
def Obligations.SelftestOnForcesLed : Prop :=
  encode .selftestOn = 0x0400 ∧ IssuedAt .selftestOn .sSelftestOn ∧
  ∀ s : State, ∃ t, exec .selftestOn s = .next t ∧ t.ledForce = true ∧
    t.dly = s.params.startupMs * s.params.ticksPerMs ∧ t.led = true ∧
    Background s t ∧ Kept s t [.ledForce, .dly] ∧ (s.seq = .sSelftestOn → t.seq = .sSelftestWt)

/-- R222: SELFTEST_WAIT counts down and releases the LED at expiry; a counter loaded with N keeps each of the three
bounded waits for exactly N ticks. -/
def Obligations.SelftestWaitCountsDown : Prop :=
  encode .selftestWait = 0x0500 ∧ IssuedAt .selftestWait .sSelftestWt ∧
  (∀ s : State, ∃ t, exec .selftestWait s = .next t ∧ Background s t ∧
    (1 < s.dly → t.dly = s.dly - 1 ∧ Kept s t [.dly] ∧ (s.seq = .sSelftestWt → t.seq = .sSelftestWt)) ∧
    (s.dly ≤ 1 → t.dly = 0 ∧ t.ledForce = false ∧ Kept s t [.dly, .ledForce] ∧
      (s.seq = .sSelftestWt → t.seq = .sBootSei))) ∧
  (∀ (s : State) (n : Nat), boundedWaitAt s.seq = true → s.dly = n → 1 ≤ n → s.Powered n →
    (∀ j, j < n → (s.sigma j).seq = s.seq ∧ (s.sigma j).dly = n - j) ∧ (s.sigma n).dly = 0 ∧
    (s.seq = .sSelftestWt → (s.sigma n).seq = .sBootSei ∧ (s.sigma n).ledForce = false) ∧
    (s.seq = .sDebounce → (s.sigma n).seq = .sAdvance) ∧ (s.seq = .sWakeup → (s.sigma n).seq = .sWakeCli))

/-- R131: POLL takes the first sample. -/
def Obligations.PollTakesFirstSample : Prop :=
  encode .poll = 0x0600 ∧ IssuedAt .poll .sPoll ∧
  ∀ s : State, ∃ t, exec .poll s = .next t ∧ t.btnRaw = s.btn ∧ t.pressed = false ∧ Background s t ∧
    (s.btn = false → t.dly = s.params.debounceMs * s.params.ticksPerMs ∧ Kept s t [.btnRaw, .pressed, .dly] ∧
      (s.seq = .sPoll → t.seq = .sDebounce)) ∧
    (s.btn = true → Kept s t [.btnRaw, .pressed] ∧ (s.seq = .sPoll → t.seq = .sAdvance))

/-- R132: DEBOUNCE counts down and takes the second sample at expiry. -/
def Obligations.DebounceTakesSecondSample : Prop :=
  encode .debounce = 0x0700 ∧ IssuedAt .debounce .sDebounce ∧
  ∀ s : State, ∃ t, exec .debounce s = .next t ∧ Background s t ∧
    (1 < s.dly → t.dly = s.dly - 1 ∧ Kept s t [.dly] ∧ (s.seq = .sDebounce → t.seq = .sDebounce)) ∧
    (s.dly ≤ 1 → t.dly = 0 ∧ t.btnRaw = s.btn ∧ (t.pressed = true ↔ s.btn = false) ∧
      Kept s t [.dly, .btnRaw, .pressed] ∧ (s.seq = .sDebounce → t.seq = .sAdvance))

/-- R111: ADVANCE steps the mode on a confirmed press and leaves PRESSED alone. -/
def Obligations.AdvanceStepsMode : Prop :=
  encode .advance = 0x0800 ∧ IssuedAt .advance .sAdvance ∧ nextMode .fade = .off ∧
  ∀ s : State, ∃ t, exec .advance s = .next t ∧ Background s t ∧
    (s.pressed = true → t.mode = nextMode s.mode ∧ Kept s t [.mode]) ∧
    (s.pressed = false → Kept s t []) ∧ (s.seq = .sAdvance → t.seq = .sDispatch)

/-- R112 and R183: DISPATCH branches on the mode and SELECT on PSTATE; neither writes a datapath register. -/
def Obligations.DispatchAndSelectBranch : Prop :=
  (encode .dispatch = 0x0900 ∧ IssuedAt .dispatch .sDispatch ∧
    ∀ s : State, ∃ t, exec .dispatch s = .next t ∧ Background s t ∧ Kept s t [] ∧
      (s.seq = .sDispatch → s.mode = .off → t.seq = .sOffPwm) ∧
      (s.seq = .sDispatch → s.mode ≠ .off → t.seq = .sOnPwm)) ∧
  (encode .select = 0x0F00 ∧ IssuedAt .select .sSelect ∧
    ∀ s : State, ∃ t, exec .select s = .next t ∧ Background s t ∧ Kept s t [] ∧
      (s.seq = .sSelect → s.pstate = .deepest → t.seq = .sDeepBg) ∧
      (s.seq = .sSelect → s.pstate = .idle → t.seq = .sSleep))

/-- R151: PWM_ENABLE starts a fresh period from disabled, with the LED high in the next tick exactly when the latched
value is not 0, and changes nothing when enabled. -/
def Obligations.PwmEnableStartsFreshPeriod : Prop :=
  encode .pwmEnable = 0x0A00 ∧ IssuedAt .pwmEnable .sOnPwm ∧
  ∀ s : State, ∃ t, exec .pwmEnable s = .next t ∧ Sampled s t ∧ FlagSetOrKept s t ∧
    (s.pwmEn = false → t.pwmEn = true ∧ t.pwmPre = 0 ∧ t.pwmCnt = 0 ∧ t.pwmCmp = s.pwmCmpBuf ∧ Kept s t [.pwmEn] ∧
      (t.pwmOut = true ↔ s.pwmCmpBuf ≠ 0)) ∧
    (s.pwmEn = true → PwmRan s t ∧ Kept s t []) ∧ (s.seq = .sOnPwm → t.seq = .sOnDuty)

/-- PWM_DISABLE stops and clears the counter, keeps both compare registers and darkens the LED
(42_pwm.md section 2). That PWM_CMP is kept on a wrap-around tick too is log entry 6. -/
def Obligations.PwmDisableStopsCounter : Prop :=
  encode .pwmDisable = 0x0B00 ∧ (∀ s : State, s.op = .pwmDisable ↔ s.seq = .sOffPwm ∨ s.seq = .sDeepPwm) ∧
  ∀ s : State, ∃ t, exec .pwmDisable s = .next t ∧ Sampled s t ∧ FlagSetOrKept s t ∧ t.pwmEn = false ∧ t.pwmPre = 0 ∧
    t.pwmCnt = 0 ∧ t.pwmCmp = s.pwmCmp ∧ t.led = s.ledForce ∧ Kept s t [.pwmEn] ∧
    (s.seq = .sOffPwm → t.seq = .sOffReq) ∧ (s.seq = .sDeepPwm → t.seq = .sSleep)

/-- R153: SET_DUTY writes the buffer only; a wrap-around of the same tick latches the old buffer, and in any other tick
the active value, and so the output of the comparator for each count, stays. -/
def Obligations.SetDutyWritesBufferOnly : Prop :=
  (∀ v : Byte, (encode (.setDuty v)).toNat = 0x0C00 + v.toNat) ∧
  (∀ (s : State) (v : Byte), s.op = .setDuty v ↔ s.seq = .sOnDuty ∧ v = duty s.mode s.fullbright) ∧
  ∀ (v : Byte) (s : State), ∃ t, exec (.setDuty v) s = .next t ∧ t.pwmCmpBuf = v ∧ Background s t ∧
    Kept s t [.pwmCmpBuf] ∧ (s.pwmWraps = true → t.pwmCmp = s.pwmCmpBuf) ∧
    (s.pwmWraps = false → t.pwmCmp = s.pwmCmp) ∧ (s.seq = .sOnDuty → t.seq = .sOnReq)

/-- R181: REQ_SLEEP records the depth. -/
def Obligations.ReqSleepRecordsDepth : Prop :=
  (∀ d : Depth, (encode (.reqSleep d)).toNat = 0x0D00 + d.code.toNat) ∧
  IssuedAt (.reqSleep .deepest) .sOffReq ∧ IssuedAt (.reqSleep .idle) .sOnReq ∧
  ∀ (d : Depth) (s : State), ∃ t, exec (.reqSleep d) s = .next t ∧ t.pstate = d ∧ Background s t ∧
    Kept s t [.pstate] ∧ (s.seq = .sOffReq ∨ s.seq = .sOnReq → t.seq = .sArm)

/-- R182 and R191: ARM_WAKE and DISARM_WAKE write PCIE; an edge is recorded by the pre-tick PCIE. -/
def Obligations.ArmAndDisarmWritePcie : Prop :=
  (encode .armWake = 0x0E00 ∧ IssuedAt .armWake .sArm ∧
    ∀ s : State, ∃ t, exec .armWake s = .next t ∧ t.pcie = true ∧ (s.pcie = false → t.pcif = s.pcif) ∧
      Background s t ∧ Kept s t [.pcie] ∧ (s.seq = .sArm → t.seq = .sSelect)) ∧
  (encode .disarmWake = 0x1400 ∧ IssuedAt .disarmWake .sWakeDisarm ∧
    ∀ s : State, ∃ t, exec .disarmWake s = .next t ∧ t.pcie = false ∧
      (s.pcie = true → s.btn ≠ s.btnPrev → t.pcif = true) ∧ Background s t ∧
      Kept s t [.pcie] ∧ (s.seq = .sWakeDisarm → t.seq = .sWakeBg))

/-- R187: SLEEP stays until the wake condition holds, then loads the wake latency. -/
def Obligations.SleepStaysOrWakes : Prop :=
  (∀ d : Depth, (encode (.sleep d)).toNat = 0x1000 + d.code.toNat) ∧
  (∀ (s : State) (d : Depth), s.op = .sleep d ↔ s.seq = .sSleep ∧ d = s.pstate) ∧
  ∀ (d : Depth) (s : State), ∃ t, exec (.sleep d) s = .next t ∧ Background s t ∧
    ((s.gie = true ∧ ((s.pcie = true ∧ s.pcif = true) ∨ (s.pstate = .idle ∧ s.bgRun = true ∧ s.bgTick = true))) →
      t.dly = (if s.pstate = .deepest then s.params.tWakeDeep else s.params.tWakeIdle) ∧ Kept s t [.dly] ∧
      (s.seq = .sSleep → t.seq = .sWakeup)) ∧
    (¬ (s.gie = true ∧ ((s.pcie = true ∧ s.pcif = true) ∨ (s.pstate = .idle ∧ s.bgRun = true ∧ s.bgTick = true))) →
      Kept s t [] ∧ (s.seq = .sSleep → t.seq = .sSleep))

/-- R188: WAKEUP counts the wake latency down. -/
def Obligations.WakeupCountsDown : Prop :=
  (∀ d : Depth, (encode (.wakeup d)).toNat = 0x1100 + d.code.toNat) ∧
  (∀ (s : State) (d : Depth), s.op = .wakeup d ↔ s.seq = .sWakeup ∧ d = s.pstate) ∧
  ∀ (d : Depth) (s : State), ∃ t, exec (.wakeup d) s = .next t ∧ Background s t ∧ Kept s t [.dly] ∧
    (1 < s.dly → t.dly = s.dly - 1 ∧ (s.seq = .sWakeup → t.seq = .sWakeup)) ∧
    (s.dly ≤ 1 → t.dly = 0 ∧ (s.seq = .sWakeup → t.seq = .sWakeCli))

/-- R189 and R192: CLI and SEI write GIE. -/
def Obligations.CliAndSeiWriteGie : Prop :=
  (encode .cli = 0x1200 ∧ IssuedAt .cli .sWakeCli ∧
    ∀ s : State, ∃ t, exec .cli s = .next t ∧ t.gie = false ∧ Background s t ∧ Kept s t [.gie] ∧
      (s.seq = .sWakeCli → t.seq = .sWakeClrf)) ∧
  (encode .sei = 0x1500 ∧ (∀ s : State, s.op = .sei ↔ s.seq = .sWakeSei ∨ s.seq = .sBootSei) ∧
    ∀ s : State, ∃ t, exec .sei s = .next t ∧ t.gie = true ∧ Background s t ∧ Kept s t [.gie] ∧
      (s.seq = .sWakeSei ∨ s.seq = .sBootSei → t.seq = .sPoll))

/-- R190: CLR_WAKE_FLAG clears PCIF unless the detector sets it in the same tick. -/
def Obligations.ClrWakeFlagLosesToEdge : Prop :=
  encode .clrWakeFlag = 0x1300 ∧ IssuedAt .clrWakeFlag .sWakeClrf ∧
  ∀ s : State, ∃ t, exec .clrWakeFlag s = .next t ∧ (t.pcif = true ↔ s.pcie = true ∧ s.btn ≠ s.btnPrev) ∧
    Sampled s t ∧ PwmRan s t ∧ Kept s t [] ∧ (s.seq = .sWakeClrf → t.seq = .sWakeDisarm)

/-! ## Encodings -/

/-- R80, R110 and R90: the MODE encoding and next_mode; a code of no mode, and a SEQ code of no state, reads back as
nothing. -/
def Obligations.ModeEncodingFollowsEnumeration : Prop :=
  Mode.off.code = 0b000 ∧ Mode.on.code = 0b001 ∧ Mode.slowBlink.code = 0b010 ∧ Mode.fastBlink.code = 0b011 ∧
  Mode.fade.code = 0b100 ∧ (∀ m, (nextMode m).code.toNat = (m.code.toNat + 1) % 5) ∧
  nextMode .off = .on ∧ nextMode .on = .slowBlink ∧ nextMode .slowBlink = .fastBlink ∧ nextMode .fastBlink = .fade ∧
  nextMode .fade = .off ∧
  (∀ m, Mode.ofCode m.code = some m) ∧ (∀ c : BitVec 3, 5 ≤ c.toNat → Mode.ofCode c = none) ∧
  (∀ c : BitVec 5, 24 ≤ c.toNat → Seq.ofCode c = none)

/-- R84 and R228: the codes of the 24 sequencer states, the operation, with its operand, that each executes, and the word
that op_trace shows. -/
def Obligations.SequencerStatesIssueTheirOperations : Prop :=
  Seq.all.map Seq.code = (List.range 24).map (BitVec.ofNat 5) ∧ (∀ q, q ∈ Seq.all ∧ Seq.ofCode q.code = some q) ∧
  ∀ s : State,
    s.op = (match s.seq with
      | .sBootBg => .bgStart | .sSelftestOn => .selftestOn | .sSelftestWt => .selftestWait | .sBootSei => .sei
      | .sPoll => .poll | .sDebounce => .debounce | .sAdvance => .advance | .sDispatch => .dispatch
      | .sOffPwm => .pwmDisable | .sOffReq => .reqSleep .deepest | .sOnPwm => .pwmEnable
      | .sOnDuty => .setDuty (duty s.mode s.fullbright) | .sOnReq => .reqSleep .idle | .sArm => .armWake
      | .sSelect => .select | .sDeepBg => .bgStop | .sDeepPwm => .pwmDisable | .sSleep => .sleep s.pstate
      | .sWakeup => .wakeup s.pstate | .sWakeCli => .cli | .sWakeClrf => .clrWakeFlag | .sWakeDisarm => .disarmWake
      | .sWakeBg => .bgRestart | .sWakeSei => .sei) ∧
    s.opTrace.toNat = (match s.seq with
      | .sBootBg => 0x0100 | .sSelftestOn => 0x0400 | .sSelftestWt => 0x0500 | .sBootSei => 0x1500 | .sPoll => 0x0600
      | .sDebounce => 0x0700 | .sAdvance => 0x0800 | .sDispatch => 0x0900 | .sOffPwm => 0x0B00 | .sOffReq => 0x0D01
      | .sOnPwm => 0x0A00 | .sOnDuty => 0x0C00 + (duty s.mode s.fullbright).toNat | .sOnReq => 0x0D00
      | .sArm => 0x0E00 | .sSelect => 0x0F00 | .sDeepBg => 0x0200 | .sDeepPwm => 0x0B00
      | .sSleep => 0x1000 + s.pstate.code.toNat | .sWakeup => 0x1100 + s.pstate.code.toNat | .sWakeCli => 0x1200
      | .sWakeClrf => 0x1300 | .sWakeDisarm => 0x1400 | .sWakeBg => 0x0300 | .sWakeSei => 0x1500)

/-- Some words of each family, written out from R87 and R86, decode to their operations. -/
def Obligations.WrittenWordsDecode : Prop :=
  decode 0b0000100000000 = .ok .bgStart ∧ decode 0b0011000000000 = .ok .poll ∧ decode 0b0100100000000 = .ok .dispatch ∧
  decode 0b0110011111010 = .ok (.setDuty 250) ∧ decode 0b0110100000001 = .ok (.reqSleep .deepest) ∧
  decode 0b1000000000000 = .ok (.sleep .idle) ∧ decode 0b1010100000000 = .ok .sei

/-- Decoding an encoded operation gives it back, whatever its operand; a word that decodes to an operation is that
operation's encoding; so each word has one meaning. The same through the serialised bytes. -/
def Obligations.DecodeEncodeAgree : Prop :=
  (∀ i : Instr, decode (encode i) = .ok i) ∧ (∀ (w : OpWord) (i : Instr), decode w = .ok i → encode i = w) ∧
  (∀ i : Instr, decodeBytes (encodeBytes i) = .ok i) ∧
  (∀ i : Instr, decodeTableWord 16 (encode i).toNat = some i)

/-- R88 and R89: exactly the reserved words are refused, each by its name, and the sequencer never produces one. -/
def Obligations.ReservedWordsAreRefusedByName : Prop :=
  (∀ w : OpWord, (∃ i, decode w = .ok i) ↔ (Uop.ofWord w).wf = true) ∧
  (∀ w : OpWord, (w.toNat / 256 = 0 ∨ 0x16 ≤ w.toNat / 256) →
    decode w = .error (.reservedOpcode (BitVec.ofNat 5 (w.toNat / 256)))) ∧
  (∀ w : OpWord, (Uop.ofWord w).opcodeDefined = true → (Uop.ofWord w).operandFits = false →
    decode w = .error (.reservedOperand (Uop.ofWord w).opc (Uop.ofWord w).arg)) ∧
  (∀ v : Byte, (∃ w : OpWord, decode w = .ok (.setDuty v))) ∧
  (∀ s : State, (Uop.ofWord s.opTrace).wf = true) ∧
  (∀ (p : Params) (ins : List Inputs) (e n : Nat), p.wf = true →
    ((State.resetWith p ins e).sigma n).seq = .sOnDuty → ((State.resetWith p ins e).sigma n).mode ≠ .off)

/-- An operation written as text reads back as itself (30_encoding.md section 4). -/
def Obligations.OperationTextReadsBack : Prop :=
  ∀ i : Instr, parseLine i.text = .ok (some i) ∧ parseLine (i.text ++ " ; comment") = .ok (some i)

/-! ## The tick -/

/-- A tick runs the operation whose word stands on op_trace; nothing is added around it. -/
def Obligations.StepRunsDecodedOperation : Prop :=
  ∀ (s : State) (i : Instr), s.por = false → decode s.opTrace = .ok i → step s = exec i s

/-- Placing the sequencer on an operation word makes the next step run exactly that operation. -/
def Obligations.FetchWordRunsNext : Prop :=
  ∀ (s : State) (i : Instr),
    (s.withFetchWord 16 (encode i).toNat).opTrace = encode i ∧
    step (s.withFetchWord 16 (encode i).toNat) = exec i (s.withFetchWord 16 (encode i).toNat)

/-- The block never stops: every step, with any inputs, answers a next state (60_exceptions.md section 1). -/
def Obligations.StepNeverStops : Prop :=
  (∀ s : State, step s = .next s.next) ∧ ∀ (s : State) (n : Nat), Host.Core.run Sys2Proof.core n s = .next (s.sigma n)

/-- The machine agrees with the listing of R227, with PWM_CMP of a PWM_DISABLE tick as R65 (a), R152 and R155 say
(log entry 6). -/
def Obligations.MachineRefinesListing : Prop :=
  ∀ s : State, s.por = false →
    step s = .next (if s.op = .pwmDisable then { listingStep s with pwmCmp := s.pwmCmp } else listingStep s)

/-- R223: the successor of every state, for every value of the conditions. -/
def Obligations.SuccessorTable : Prop :=
  ∀ s : State, s.por = false → s.next.seq = (match s.seq with
    | .sBootBg => .sSelftestOn | .sSelftestOn => .sSelftestWt
    | .sSelftestWt => if 1 < s.dly then .sSelftestWt else .sBootSei
    | .sBootSei => .sPoll | .sPoll => if s.btn = false then .sDebounce else .sAdvance
    | .sDebounce => if 1 < s.dly then .sDebounce else .sAdvance
    | .sAdvance => .sDispatch | .sDispatch => if s.mode = .off then .sOffPwm else .sOnPwm
    | .sOffPwm => .sOffReq | .sOffReq => .sArm | .sOnPwm => .sOnDuty | .sOnDuty => .sOnReq | .sOnReq => .sArm
    | .sArm => .sSelect | .sSelect => if s.pstate = .deepest then .sDeepBg else .sSleep
    | .sDeepBg => .sDeepPwm | .sDeepPwm => .sSleep
    | .sSleep =>
      if s.gie = true ∧ ((s.pcie = true ∧ s.pcif = true) ∨ (s.pstate = .idle ∧ s.bgRun = true ∧ s.bgTick = true))
      then .sWakeup else .sSleep
    | .sWakeup => if 1 < s.dly then .sWakeup else .sWakeCli
    | .sWakeCli => .sWakeClrf | .sWakeClrf => .sWakeDisarm | .sWakeDisarm => .sWakeBg | .sWakeBg => .sWakeSei
    | .sWakeSei => .sPoll)

/-- No operation changes a register that it does not own (10_state.md section 9); the free-running writers do to PWM_PRE,
PWM_CNT, PWM_CMP, PCIF, BTN_PREV and SEQ what their own rules say and nothing more. That the clause on SEQ also speaks of
sequencer states that issue another operation is the model's choice, DESIGN CHOICE of log entry 9. -/
def Obligations.WriteOwnership : Prop :=
  ∀ (i : Instr) (s t : State) (r : Reg), exec i s = .next t → ownedBy r i = false →
    (r ∉ backgroundRegs → t.read r = s.read r) ∧
    (r = .pwmPre → t.pwmPre = s.pwmRun.pwmPre) ∧
    (r = .pwmCnt → t.pwmCnt = s.pwmRun.pwmCnt) ∧
    (r = .pwmCmp → t.pwmCmp = s.pwmCmp ∨ (s.pwmWraps = true ∧ t.pwmCmp = s.pwmCmpBuf)) ∧
    (r = .pcif → t.pcif = (s.pcif || (s.pcie && s.edge))) ∧
    (r = .seq → t.seq = successor s.seq (s.signals i)) ∧ t.btnPrev = s.btn

/-- R150: the PWM operations write PWM registers only, and no other operation writes one. -/
def Obligations.PwmIsolation : Prop :=
  (∀ (i : Instr) (s t : State), (i = .pwmEnable ∨ i = .pwmDisable ∨ ∃ v, i = .setDuty v) → exec i s = .next t →
    (∀ r, r ∉ pwmRegs → r ∉ [.btnPrev, .pcif, .seq] → t.read r = s.read r) ∧ Sampled s t ∧ FlagSetOrKept s t) ∧
  (∀ (i : Instr) (s t : State), i ≠ .pwmEnable → i ≠ .pwmDisable → (∀ v, i ≠ .setDuty v) → exec i s = .next t →
    PwmRan s t ∧ t.pwmEn = s.pwmEn ∧ t.pwmCmpBuf = s.pwmCmpBuf)

/-- R290: a clock edge with `por` = 1 gives the reset state, whatever the block was doing. -/
def Obligations.PorForcesResetState : Prop :=
  ∀ s : State, s.por = true → ∃ t, step s = .next t ∧ t.params = s.params ∧
    ∀ r, t.read r = (State.resetWith s.params [] 0).read r

/-! ## Reset and invariants -/

/-- R41: every register and every output after power-on reset at the source configuration. -/
def Obligations.ResetValues : Prop :=
  (∀ r, State.reset.read r = (match r with | .fullbright => 250 | .btnRaw => 1 | .btnPrev => 1 | _ => 0)) ∧
  State.reset.mode = .off ∧ State.reset.seq = .sBootBg ∧ State.reset.pstate = .idle ∧
  State.reset.outputs = { led := false, pwmEn := false, bgRun := false, sleepO := 0b00, periphClkEn := true, opTrace := 0x0100 }

/-- The reset state satisfies the inductive invariant, for all allowed parameters and all inputs. -/
def Obligations.ResetSatisfiesInvariant : Prop :=
  ∀ (p : Params) (ins : List Inputs) (e : Nat), p.wf = true → (State.resetWith p ins e).Inv

/-- Every step keeps the inductive invariant, whatever the inputs. -/
def Obligations.StepKeepsInvariant : Prop := ∀ s t : State, s.Inv → step s = .next t → t.Inv

/-- R45 (a) to (i) in every state of every run from reset. -/
def Obligations.ReachableStateFacts : Prop :=
  ∀ (p : Params) (ins : List Inputs) (e n : Nat), p.wf = true → ((State.resetWith p ins e).sigma n).Facts

/-- R8: the derived constants; DLY_W is the least width that holds every value loaded into DLY. -/
def Obligations.DerivedConstants : Prop :=
  ∀ p : Params, p.wf = true →
    p.debounceTicks = p.debounceMs * p.ticksPerMs ∧ p.startupTicks = p.startupMs * p.ticksPerMs ∧
    1 ≤ p.debounceTicks ∧ 1 ≤ p.startupTicks ∧ p.pwmPeriod = p.pwmTop * p.pwmDiv ∧
    max (max p.startupTicks p.debounceTicks) p.tWakeDeep < 2 ^ p.dlyWidth ∧
    ∀ w, max (max p.startupTicks p.debounceTicks) p.tWakeDeep < 2 ^ w → p.dlyWidth ≤ w

/-- DLY and PWM_PRE, held as natural numbers (log entry 13), fit the widths of R37 and R24 in every state of a run. -/
def Obligations.CountersFitTheirWidths : Prop :=
  ∀ (p : Params) (ins : List Inputs) (e n : Nat), p.wf = true →
    ((State.resetWith p ins e).sigma n).dly < 2 ^ p.dlyWidth ∧ ((State.resetWith p ins e).sigma n).pwmPre < 2 ^ p.preWidth

/-! ## The mode machine -/

/-- R113 and R81: the duty lookup at every driving mode, with the shift amounts. -/
def Obligations.DutyLookup : Prop :=
  shiftAmount .off = none ∧ shiftAmount .on = some 0b00 ∧ shiftAmount .fade = some 0b01 ∧
  shiftAmount .fastBlink = some 0b10 ∧ shiftAmount .slowBlink = some 0b11 ∧
  (∀ fb : Byte, (duty .on fb).toNat = fb.toNat ∧ (duty .fade fb).toNat = fb.toNat / 2 ∧
    (duty .fastBlink fb).toNat = fb.toNat / 4 ∧ (duty .slowBlink fb).toNat = fb.toNat / 8)

/-- R114: the directive of each mode, as it stands whenever the block sleeps in a run from reset, with the words at the
document's FULLBRIGHT. -/
def Obligations.DirectiveTable : Prop :=
  (∀ (p : Params) (ins : List Inputs) (e n : Nat), p.wf = true → ((State.resetWith p ins e).sigma n).seq = .sSleep →
    (((State.resetWith p ins e).sigma n).mode = .off →
      ((State.resetWith p ins e).sigma n).pwmEn = false ∧ ((State.resetWith p ins e).sigma n).pstate = .deepest) ∧
    (((State.resetWith p ins e).sigma n).mode ≠ .off →
      ((State.resetWith p ins e).sigma n).pwmEn = true ∧ ((State.resetWith p ins e).sigma n).pstate = .idle ∧
      ((State.resetWith p ins e).sigma n).pwmCmpBuf =
        duty ((State.resetWith p ins e).sigma n).mode p.fullBrightnessDefault)) ∧
  duty .on 250 = 250 ∧ encode (.setDuty (duty .on 250)) = 0x0CFA ∧
  duty .slowBlink 250 = 31 ∧ encode (.setDuty (duty .slowBlink 250)) = 0x0C1F ∧
  duty .fastBlink 250 = 62 ∧ encode (.setDuty (duty .fastBlink 250)) = 0x0C3E ∧
  duty .fade 250 = 125 ∧ encode (.setDuty (duty .fade 250)) = 0x0C7D

/-- R115: MODE changes only in S_ADVANCE, only on a confirmed press, only to next_mode; it is Off through boot. -/
def Obligations.ModeChangesOnlyOnConfirmedPress : Prop :=
  (∀ s : State, s.por = false → s.next.mode ≠ s.mode →
    s.seq = .sAdvance ∧ s.pressed = true ∧ s.next.mode = nextMode s.mode) ∧
  (∀ (p : Params) (ins : List Inputs) (e n : Nat), ((State.resetWith p ins e).sigma n).seq.code.toNat < 4 →
    ((State.resetWith p ins e).sigma n).mode = .off)

/-- R116: five steps close the cycle and fewer do not; along any run the mode counts the confirmed presses modulo five,
so five presses from Off come back to Off with the PWM disabled once the block sleeps. -/
def Obligations.FivePressesReturnToOff : Prop :=
  (∀ m k, 0 < k → k ≤ 5 → (nextMode^[k] m = m ↔ k = 5)) ∧
  (∀ (s : State) (n : Nat), s.Powered n → (s.sigma n).mode = nextMode^[s.confirmed n] s.mode) ∧
  (∀ (s : State) (n : Nat), s.Inv → s.Powered n → s.mode = .off → s.confirmed n = 5 → (s.sigma n).seq = .sSleep →
    (s.sigma n).mode = .off ∧ (s.sigma n).pwmEn = false ∧ (s.sigma n).pwmCnt = 0 ∧ (s.sigma n).pwmPre = 0 ∧
    (s.sigma n).led = false)

/-! ## The button -/

/-- R133: the contract of POLL and DEBOUNCE together: one tick and no press when the pin reads high; when it reads low,
DEBOUNCE_TICKS more ticks, and a press exactly when the second sample is low too. -/
def Obligations.PollButtonContract : Prop :=
  (∀ s : State, s.seq = .sPoll → s.por = false → s.btn = true →
    (s.sigma 1).seq = .sAdvance ∧ (s.sigma 1).pressed = false) ∧
  (∀ s : State, s.params.wf = true → s.seq = .sPoll → s.Powered (s.params.debounceTicks + 1) → s.btn = false →
    (∀ j, 1 ≤ j → j ≤ s.params.debounceTicks → (s.sigma j).seq = .sDebounce ∧ (s.sigma j).pressed = false) ∧
    (s.sigma (s.params.debounceTicks + 1)).seq = .sAdvance ∧
    ((s.sigma (s.params.debounceTicks + 1)).pressed = true ↔ (s.inputAt s.params.debounceTicks).btn = false)) ∧
  (∀ s : State, s.por = false → s.pressed = false → s.next.pressed = true → s.op = .debounce)

/-- R134: the pin-change detector at every tick; its flag feeds the wake condition of S_SLEEP and nothing else. -/
def Obligations.PinChangeDetector : Prop :=
  (∀ s : State, s.por = false → s.next.btnPrev = s.btn ∧
    s.next.pcif = (if s.pcie = true ∧ s.btn ≠ s.btnPrev then true else if s.op = .clrWakeFlag then false else s.pcif)) ∧
  (∀ (s : State) (b : Bool), s.seq ≠ .sSleep → ∀ r, r ≠ .pcif →
    ({ s with pcif := b } : State).next.read r = s.next.read r) ∧
  (∀ (s : State) (b : Bool) (r : Reg), r ≠ .pcif → r ≠ .dly → r ≠ .seq →
    ({ s with pcif := b } : State).next.read r = s.next.read r)

/-- BTN_RAW is read by nothing (10_state.md section 4). -/
def Obligations.BtnRawIsReadByNothing : Prop :=
  ∀ (s : State) (b : Bool) (n : Nat), (∀ r, r ≠ .btnRaw →
    (({ s with btnRaw := b } : State).sigma n).read r = (s.sigma n).read r) ∧
    (({ s with btnRaw := b } : State).sigma n).outputs = (s.sigma n).outputs

/-! ## The PWM -/

/-- R155: PWM_CMP takes the pre-tick buffer at a period boundary and at no other time. -/
def Obligations.CompareLatchesAtBoundaryOnly : Prop :=
  ∀ s : State, s.por = false →
    s.next.pwmCmp =
      (if (s.op ≠ .pwmDisable ∧ s.pwmEn = true ∧ s.pwmPre = s.params.pwmDiv - 1 ∧
            s.pwmCnt.toNat = s.params.pwmTop - 1) ∨ (s.op = .pwmEnable ∧ s.pwmEn = false)
       then s.pwmCmpBuf else s.pwmCmp)

/-- R154: the counter update in every tick without PWM_DISABLE and without an enabling PWM_ENABLE; over a whole run of
such ticks the counter stays PWM_DIV ticks at each value and goes round in PWM_TOP counts. -/
def Obligations.CounterUpdate : Prop :=
  (∀ s : State, s.por = false → s.op ≠ .pwmDisable → ¬ (s.op = .pwmEnable ∧ s.pwmEn = false) →
    (s.pwmEn = false → s.next.pwmPre = s.pwmPre ∧ s.next.pwmCnt = s.pwmCnt) ∧
    (s.pwmEn = true → s.pwmPre = s.params.pwmDiv - 1 →
      s.next.pwmPre = 0 ∧ s.next.pwmCnt = (if s.pwmCnt.toNat = s.params.pwmTop - 1 then 0 else s.pwmCnt + 1)) ∧
    (s.pwmEn = true → s.pwmPre ≠ s.params.pwmDiv - 1 →
      s.next.pwmPre = s.pwmPre + 1 ∧ s.next.pwmCnt = s.pwmCnt)) ∧
  (∀ (s : State) (n : Nat), s.InRange → s.pwmEn = true → s.pwmCnt = 0 → s.pwmPre = 0 → s.Powered n →
    (∀ j, j < n → (s.sigma j).op ≠ .pwmDisable) →
    (s.sigma n).pwmPre = n % s.params.pwmDiv ∧ (s.sigma n).pwmCnt.toNat = n / s.params.pwmDiv % s.params.pwmTop) ∧
  (∀ s : State, s.Inv → s.sleepO = 0b10 → s.pwmEn = false)

/-- R156 and R157: the comparator and the LED output; in a full period with compare value c, `led` is high exactly at the
counts below c, so for min(c, PWM_TOP) * PWM_DIV of its ticks. -/
def Obligations.DutyFraction : Prop :=
  (∀ s : State, (s.outputs.led = true ↔ s.ledForce = true ∨ (s.pwmEn = true ∧ s.pwmCnt.toNat < s.pwmCmp.toNat)) ∧
    s.outputs.pwmEn = s.pwmEn) ∧
  ∀ s : State, s.InRange → s.pwmEn = true → s.pwmCnt = 0 → s.pwmPre = 0 →
    s.Powered (s.params.pwmTop * s.params.pwmDiv) →
    (∀ j, j < s.params.pwmTop * s.params.pwmDiv → (s.sigma j).op ≠ .pwmDisable ∧ (s.sigma j).ledForce = false) →
    (∀ j, j < s.params.pwmTop * s.params.pwmDiv →
      ((s.sigma j).led = true ↔ j / s.params.pwmDiv < s.pwmCmp.toNat)) ∧
    s.highTicks (s.params.pwmTop * s.params.pwmDiv) = min s.pwmCmp.toNat s.params.pwmTop * s.params.pwmDiv

/-- R159: while the mode stays the same, the directive changes nothing: in a driving mode the PWM runs as if no operation
were there; in Off nothing of it changes. -/
def Obligations.DirectiveIsIdempotent : Prop :=
  (∀ (s : State) (n : Nat), s.Inv → s.seq = .sPoll → s.mode ≠ .off → s.Powered n →
    (∀ j, j ≤ n → (s.sigma j).mode = s.mode) →
    (s.sigma n).pwmEn = true ∧ (s.sigma n).pwmCmpBuf = s.pwmCmpBuf ∧ (s.sigma n).pwmPre = (s.pwmAlone n).pwmPre ∧
    (s.sigma n).pwmCnt = (s.pwmAlone n).pwmCnt ∧ (s.sigma n).pwmCmp = (s.pwmAlone n).pwmCmp ∧
    (s.sigma n).led = (s.pwmAlone n).led) ∧
  (∀ (s : State) (n : Nat), s.Inv → s.seq = .sPoll → s.mode = .off → s.Powered n →
    (∀ j, j ≤ n → (s.sigma j).mode = .off) →
    ∀ r, r ∈ pwmRegs → (s.sigma n).read r = s.read r)

/-- The stale first period (70_reset_and_hazards.md section 2): after an enabling PWM_ENABLE the first whole period runs
with the old buffer; the new duty is in the buffer two ticks after, and active from the first wrap-around (from the
second one if a period is a single tick). -/
def Obligations.StaleFirstPeriod : Prop :=
  ∀ s : State, s.InRange → s.seq = .sOnPwm → s.pwmEn = false → s.mode ≠ .off →
    s.Powered (s.params.pwmTop * s.params.pwmDiv + 1) →
    (∀ j, j ≤ s.params.pwmTop * s.params.pwmDiv + 1 → (s.sigma j).mode = s.mode) →
    (∀ j, 1 ≤ j → j ≤ s.params.pwmTop * s.params.pwmDiv → (s.sigma j).pwmCmp = s.pwmCmpBuf) ∧
    (∀ j, 2 ≤ j → j ≤ s.params.pwmTop * s.params.pwmDiv + 1 → (s.sigma j).pwmCmpBuf = duty s.mode s.fullbright) ∧
    (2 ≤ s.params.pwmTop * s.params.pwmDiv →
      (s.sigma (s.params.pwmTop * s.params.pwmDiv + 1)).pwmCmp = duty s.mode s.fullbright)

/-! ## Power and the wake protocol -/

/-- R83 and R195: sleep_o and periph_clk_en. -/
def Obligations.PowerPorts : Prop :=
  (∀ s : State,
    (s.seq ≠ .sSleep → s.seq ≠ .sWakeup → s.sleepO = 0b00) ∧
    (s.seq = .sSleep ∨ s.seq = .sWakeup → s.pstate = .idle → s.sleepO = 0b01) ∧
    (s.seq = .sSleep ∨ s.seq = .sWakeup → s.pstate = .deepest → s.sleepO = 0b10) ∧
    s.sleepO ≠ 0b11 ∧ (s.periphClkEn = false ↔ s.sleepO = 0b10)) ∧
  (∀ s : State, s.Inv → s.periphClkEn = false → s.pwmEn = false ∧ s.bgRun = false ∧ s.led = false)

/-- R193: the wake protocol runs in its fixed order; no transition enters or leaves its chain of states except at the two
ends. -/
def Obligations.WakeProtocolOrder : Prop :=
  (∀ s : State, s.por = false → 13 ≤ s.seq.code.toNat →
    (s.next.seq.code.toNat = s.seq.code.toNat ∧ (s.seq = .sSleep ∨ s.seq = .sWakeup)) ∨
    s.next.seq.code.toNat = s.seq.code.toNat + 1 ∨
    (s.seq = .sSelect ∧ s.pstate = .idle ∧ s.next.seq = .sSleep) ∨ (s.seq = .sWakeSei ∧ s.next.seq = .sPoll)) ∧
  (∀ s : State, s.por = false → s.seq.code.toNat < 13 → 13 ≤ s.next.seq.code.toNat → s.next.seq = .sArm) ∧
  (∀ s : State, (s.seq = .sArm → s.op = .armWake) ∧ (s.seq = .sSelect → s.op = .select) ∧
    (s.seq = .sDeepBg → s.op = .bgStop) ∧ (s.seq = .sDeepPwm → s.op = .pwmDisable) ∧
    (s.seq = .sSleep → s.op = .sleep s.pstate) ∧ (s.seq = .sWakeup → s.op = .wakeup s.pstate) ∧
    (s.seq = .sWakeCli → s.op = .cli) ∧ (s.seq = .sWakeClrf → s.op = .clrWakeFlag) ∧
    (s.seq = .sWakeDisarm → s.op = .disarmWake) ∧ (s.seq = .sWakeBg → s.op = .bgRestart) ∧
    (s.seq = .sWakeSei → s.op = .sei))

/-- After a wake the block polls with the wake source disarmed, interrupts on and the timer running, the wake latency
plus six ticks later; the PWM enable and the mode are as they were (43_power.md sections 4 and 5). -/
def Obligations.WakeReachesPoll : Prop :=
  ∀ s : State, s.Inv → s.seq = .sSleep → s.wake = true → s.Powered (s.params.wakeLatency s.pstate + 6) →
    (∀ j, 1 ≤ j → j ≤ s.params.wakeLatency s.pstate → (s.sigma j).seq = .sWakeup) ∧
    (s.sigma (s.params.wakeLatency s.pstate + 6)).seq = .sPoll ∧
    (s.sigma (s.params.wakeLatency s.pstate + 6)).pcie = false ∧
    (s.sigma (s.params.wakeLatency s.pstate + 6)).gie = true ∧
    (s.sigma (s.params.wakeLatency s.pstate + 6)).bgRun = true ∧
    (s.sigma (s.params.wakeLatency s.pstate + 6)).pwmEn = s.pwmEn ∧
    (s.sigma (s.params.wakeLatency s.pstate + 6)).mode = s.mode

/-- No missed wake (60_exceptions.md section 1): a transition of the pin after arming, before or during the sleep, ends
the sleep. -/
def Obligations.ArmedEdgeEndsSleep : Prop :=
  ∀ s : State, s.Inv → s.Powered 5 → s.btn ≠ s.btnPrev →
    s.seq = .sSelect ∨ s.seq = .sDeepBg ∨ s.seq = .sDeepPwm ∨ s.seq = .sSleep →
    ∃ k, k ≤ 5 ∧ (s.sigma k).seq = .sWakeup

/-- A sleep with no wake event goes on for as long as none comes: in deepest sleep no register changes, in idle sleep
only the PWM counts (43_power.md section 5, 70_reset_and_hazards.md section 3). -/
def Obligations.SleepWithoutEventGoesOn : Prop :=
  ∀ (s : State) (n : Nat), s.Inv → s.seq = .sSleep → s.pcif = false →
    (∀ j, j < n → (s.inputAt j).por = false ∧ (s.inputAt j).btn = s.btnPrev ∧
      (s.pstate = .idle → (s.inputAt j).bgTick = false)) →
    (s.pstate = .deepest → ∀ r, (s.sigma n).read r = s.read r) ∧
    (s.pstate = .idle → (∀ r, r ∉ [.pwmPre, .pwmCnt, .pwmCmp] → (s.sigma n).read r = s.read r) ∧
      (s.sigma n).pwmPre = (s.pwmAlone n).pwmPre ∧ (s.sigma n).pwmCnt = (s.pwmAlone n).pwmCnt ∧
      (s.sigma n).pwmCmp = (s.pwmAlone n).pwmCmp)

/-- R265: the global mask: it masks both sources, it is 0 from reset until S_BOOT_SEI has run and from the tick after CLI
to the tick of SEI, and it is 1 in every S_SLEEP tick. -/
def Obligations.GlobalMasking : Prop :=
  (∀ s : State, s.gie = false → s.wake = false) ∧
  (∀ (p : Params) (ins : List Inputs) (e n : Nat), p.wf = true →
    (((State.resetWith p ins e).sigma n).gie = false ↔
      ((State.resetWith p ins e).sigma n).seq ∈
        [.sBootBg, .sSelftestOn, .sSelftestWt, .sBootSei, .sWakeClrf, .sWakeDisarm, .sWakeBg, .sWakeSei]))

/-- The background tick has no effect unless the block is in idle sleep with the timer running and interrupts on
(60_exceptions.md section 2). -/
def Obligations.BgTickIsIgnoredOutsideIdleSleep : Prop :=
  ∀ (s : State) (i j : Inputs) (rest : List Inputs), i.por = j.por → i.btn = j.btn →
    (s.seq ≠ .sSleep ∨ s.pstate = .deepest ∨ s.bgRun = false ∨ s.gie = false) →
    step { s with inputs := i :: rest } = step { s with inputs := j :: rest }

/-! ## Runs -/

/-- R226: from one poll to the next the block passes through S_SLEEP in one stretch and then S_WAKEUP in one stretch. -/
def Obligations.EachIterationSleepsOnce : Prop :=
  ∀ (s : State) (n : Nat), s.seq = .sPoll → 0 < n → s.Powered n → (s.sigma n).seq = .sPoll →
    (∀ j, 0 < j → j < n → (s.sigma j).seq ≠ .sPoll) →
    ∃ a b c, 0 < a ∧ a < b ∧ b < c ∧ c < n ∧
      ∀ j, j ≤ n → (((s.sigma j).seq = .sSleep ↔ a ≤ j ∧ j < b) ∧ ((s.sigma j).seq = .sWakeup ↔ b ≤ j ∧ j < c))

/-- R229: the length of an iteration and the places of its operations. `d` is the debounce time spent, `m` the mode after
the advance, `k` the ticks spent in S_SLEEP. -/
def Obligations.IterationLength : Prop :=
  ∀ (s : State) (d k : Nat), s.params.wf = true → s.seq = .sPoll → d = (if s.btn then 0 else s.params.debounceTicks) →
    ((s.sigma (d + 2)).mode = .off → 1 ≤ k → s.Powered (d + 9 + k + s.params.tWakeDeep + 5) →
      (∀ j, j + 1 < k → (s.sigma (d + 9 + j)).wake = false) → (s.sigma (d + 9 + (k - 1))).wake = true →
      (s.sigma (d + 3)).op = .pwmDisable ∧ (s.sigma (d + 5)).op = .armWake ∧ (s.sigma (d + 7)).op = .bgStop ∧
      (s.sigma (d + 8)).seq ≠ .sSleep ∧ (s.sigma (d + 9)).seq = .sSleep ∧
      (s.sigma (d + 14 + k + s.params.tWakeDeep)).seq = .sPoll) ∧
    ((s.sigma (d + 2)).mode ≠ .off → 1 ≤ k → s.Powered (d + 8 + k + s.params.tWakeIdle + 5) →
      (∀ j, j + 1 < k → (s.sigma (d + 8 + j)).wake = false) → (s.sigma (d + 8 + (k - 1))).wake = true →
      (s.sigma (d + 3)).op = .pwmEnable ∧
      (s.sigma (d + 4)).op = .setDuty (duty (s.sigma (d + 2)).mode s.fullbright) ∧
      (s.sigma (d + 6)).op = .armWake ∧ (s.sigma (d + 7)).seq ≠ .sSleep ∧ (s.sigma (d + 8)).seq = .sSleep ∧
      (s.sigma (d + 13 + k + s.params.tWakeIdle)).seq = .sPoll)

/-- R292: the boot order tick by tick with the button released: the self-test pulse lasts STARTUP_TICKS ticks, and deepest
sleep begins at tick STARTUP_TICKS + 12 and lasts. -/
def Obligations.BootOrder : Prop :=
  ∀ (p : Params) (ins : List Inputs) (e n : Nat), p.wf = true →
    (∀ j, j < n → ((State.resetWith p ins e).inputAt j).por = false ∧ ((State.resetWith p ins e).inputAt j).btn = true) →
    ((State.resetWith p ins e).sigma n).opTrace.toNat =
      (if n = 0 then 0x0100 else if n = 1 then 0x0400 else if n < p.startupTicks + 2 then 0x0500
       else if n = p.startupTicks + 2 then 0x1500 else if n = p.startupTicks + 3 then 0x0600
       else if n = p.startupTicks + 4 then 0x0800 else if n = p.startupTicks + 5 then 0x0900
       else if n = p.startupTicks + 6 then 0x0B00 else if n = p.startupTicks + 7 then 0x0D01
       else if n = p.startupTicks + 8 then 0x0E00 else if n = p.startupTicks + 9 then 0x0F00
       else if n = p.startupTicks + 10 then 0x0200 else if n = p.startupTicks + 11 then 0x0B00 else 0x1001) ∧
    ((State.resetWith p ins e).sigma n).seq.code.toNat =
      (if n = 0 then 0 else if n = 1 then 1 else if n < p.startupTicks + 2 then 2
       else if n = p.startupTicks + 2 then 3 else if n = p.startupTicks + 3 then 4
       else if n < p.startupTicks + 8 then n - p.startupTicks + 2 else min (n - p.startupTicks + 5) 17) ∧
    (n = 2 → ((State.resetWith p ins e).sigma n).dly = p.startupTicks) ∧
    (((State.resetWith p ins e).sigma n).led = true ↔ 2 ≤ n ∧ n < p.startupTicks + 2) ∧
    (((State.resetWith p ins e).sigma n).gie = true ↔ p.startupTicks + 3 ≤ n) ∧
    (((State.resetWith p ins e).sigma n).bgRun = true ↔ 1 ≤ n ∧ n < p.startupTicks + 11) ∧
    (((State.resetWith p ins e).sigma n).pstate = .deepest ↔ p.startupTicks + 8 ≤ n) ∧
    (((State.resetWith p ins e).sigma n).pcie = true ↔ p.startupTicks + 9 ≤ n) ∧
    (((State.resetWith p ins e).sigma n).sleepO = 0b10 ↔ p.startupTicks + 12 ≤ n) ∧
    (((State.resetWith p ins e).sigma n).periphClkEn = false ↔ p.startupTicks + 12 ≤ n) ∧
    ((State.resetWith p ins e).sigma n).mode = .off ∧ ((State.resetWith p ins e).sigma n).pwmEn = false

/-- Every wait but SLEEP is bounded: from any state of a run the sequencer reaches S_SLEEP within the bound of
70_reset_and_hazards.md section 3. -/
def Obligations.SleepIsReachedInBoundedTime : Prop :=
  ∀ s : State, s.Inv → s.Powered (s.params.startupTicks + s.params.debounceTicks + s.params.tWakeDeep + 20) →
    ∃ k, k ≤ s.params.startupTicks + s.params.debounceTicks + s.params.tWakeDeep + 20 ∧ (s.sigma k).seq = .sSleep

/-- R309: from an edge in deepest sleep at tick 0 to the light: PCIF in the next state, the poll T_WAKE_DEEP + 7 ticks
later, the second sample DEBOUNCE_TICKS after the first, the mode one tick later, PWM_ENABLE two ticks after that. The
press counts only if the pin still reads low at the second sample. -/
def Obligations.PressInDeepestSleepTurnsOn : Prop :=
  ∀ (s : State) (p : Nat), s.Inv → s.seq = .sSleep → s.pstate = .deepest → s.pcif = false → s.btn ≠ s.btnPrev →
    p = s.params.tWakeDeep + 7 → s.Powered (p + s.params.debounceTicks + 4) →
    (s.sigma 1).pcif = true ∧ (s.sigma 1).wake = true ∧
    (∀ j, 2 ≤ j → j < 2 + s.params.tWakeDeep → (s.sigma j).seq = .sWakeup) ∧ (s.sigma p).seq = .sPoll ∧
    ((s.inputAt p).btn = false →
      (s.sigma (p + s.params.debounceTicks)).seq = .sDebounce ∧
      (s.sigma (p + s.params.debounceTicks + 1)).seq = .sAdvance ∧
      ((s.inputAt (p + s.params.debounceTicks)).btn = false →
        (s.sigma (p + s.params.debounceTicks + 1)).pressed = true ∧
        (s.sigma (p + s.params.debounceTicks + 2)).mode = .on ∧
        (s.sigma (p + s.params.debounceTicks + 3)).op = .pwmEnable) ∧
      ((s.inputAt (p + s.params.debounceTicks)).btn = true →
        (s.sigma (p + s.params.debounceTicks + 1)).pressed = false ∧
        (s.sigma (p + s.params.debounceTicks + 2)).mode = .off ∧
        (s.sigma (p + s.params.debounceTicks + 3)).op = .pwmDisable))
end

