-- ==== Sys2Proof/Laws/State.lean ====
section
/-! SUPPORT. One lemma for each field under each named update of the state, so that no later proof unfolds an update. -/

namespace Sys2Proof.Machine

/-! The free-running PWM update changes PWM_PRE, PWM_CNT and PWM_CMP only. -/

@[simp] theorem pwmRun_mode (s : State) : s.pwmRun.mode = s.mode := by
  unfold State.pwmRun; repeat' split
  all_goals rfl

@[simp] theorem pwmRun_fullbright (s : State) : s.pwmRun.fullbright = s.fullbright := by
  unfold State.pwmRun; repeat' split
  all_goals rfl

@[simp] theorem pwmRun_pwmEn (s : State) : s.pwmRun.pwmEn = s.pwmEn := by
  unfold State.pwmRun; repeat' split
  all_goals rfl

@[simp] theorem pwmRun_pwmCmpBuf (s : State) : s.pwmRun.pwmCmpBuf = s.pwmCmpBuf := by
  unfold State.pwmRun; repeat' split
  all_goals rfl

@[simp] theorem pwmRun_ledForce (s : State) : s.pwmRun.ledForce = s.ledForce := by
  unfold State.pwmRun; repeat' split
  all_goals rfl

@[simp] theorem pwmRun_btnRaw (s : State) : s.pwmRun.btnRaw = s.btnRaw := by
  unfold State.pwmRun; repeat' split
  all_goals rfl

@[simp] theorem pwmRun_pressed (s : State) : s.pwmRun.pressed = s.pressed := by
  unfold State.pwmRun; repeat' split
  all_goals rfl

@[simp] theorem pwmRun_btnPrev (s : State) : s.pwmRun.btnPrev = s.btnPrev := by
  unfold State.pwmRun; repeat' split
  all_goals rfl

@[simp] theorem pwmRun_pcie (s : State) : s.pwmRun.pcie = s.pcie := by
  unfold State.pwmRun; repeat' split
  all_goals rfl

@[simp] theorem pwmRun_pcif (s : State) : s.pwmRun.pcif = s.pcif := by
  unfold State.pwmRun; repeat' split
  all_goals rfl

@[simp] theorem pwmRun_gie (s : State) : s.pwmRun.gie = s.gie := by
  unfold State.pwmRun; repeat' split
  all_goals rfl

@[simp] theorem pwmRun_bgRun (s : State) : s.pwmRun.bgRun = s.bgRun := by
  unfold State.pwmRun; repeat' split
  all_goals rfl

@[simp] theorem pwmRun_pstate (s : State) : s.pwmRun.pstate = s.pstate := by
  unfold State.pwmRun; repeat' split
  all_goals rfl

@[simp] theorem pwmRun_dly (s : State) : s.pwmRun.dly = s.dly := by
  unfold State.pwmRun; repeat' split
  all_goals rfl

@[simp] theorem pwmRun_seq (s : State) : s.pwmRun.seq = s.seq := by
  unfold State.pwmRun; repeat' split
  all_goals rfl

@[simp] theorem pwmRun_params (s : State) : s.pwmRun.params = s.params := by
  unfold State.pwmRun; repeat' split
  all_goals rfl

@[simp] theorem pwmRun_inputs (s : State) : s.pwmRun.inputs = s.inputs := by
  unfold State.pwmRun; repeat' split
  all_goals rfl

@[simp] theorem pwmRun_edges (s : State) : s.pwmRun.edges = s.edges := by
  unfold State.pwmRun; repeat' split
  all_goals rfl

/-! What every tick does before the operation writes. -/

@[simp] theorem freeRun_mode (s : State) : s.freeRun.mode = s.mode := pwmRun_mode s

@[simp] theorem freeRun_fullbright (s : State) : s.freeRun.fullbright = s.fullbright := pwmRun_fullbright s

@[simp] theorem freeRun_pwmEn (s : State) : s.freeRun.pwmEn = s.pwmEn := pwmRun_pwmEn s

@[simp] theorem freeRun_pwmPre (s : State) : s.freeRun.pwmPre = s.pwmRun.pwmPre := rfl

@[simp] theorem freeRun_pwmCnt (s : State) : s.freeRun.pwmCnt = s.pwmRun.pwmCnt := rfl

@[simp] theorem freeRun_pwmCmpBuf (s : State) : s.freeRun.pwmCmpBuf = s.pwmCmpBuf := pwmRun_pwmCmpBuf s

@[simp] theorem freeRun_pwmCmp (s : State) : s.freeRun.pwmCmp = s.pwmRun.pwmCmp := rfl

@[simp] theorem freeRun_ledForce (s : State) : s.freeRun.ledForce = s.ledForce := pwmRun_ledForce s

@[simp] theorem freeRun_btnRaw (s : State) : s.freeRun.btnRaw = s.btnRaw := pwmRun_btnRaw s

@[simp] theorem freeRun_pressed (s : State) : s.freeRun.pressed = s.pressed := pwmRun_pressed s

@[simp] theorem freeRun_btnPrev (s : State) : s.freeRun.btnPrev = s.btn := rfl

@[simp] theorem freeRun_pcie (s : State) : s.freeRun.pcie = s.pcie := pwmRun_pcie s

@[simp] theorem freeRun_pcif (s : State) : s.freeRun.pcif = s.pcif := pwmRun_pcif s

@[simp] theorem freeRun_gie (s : State) : s.freeRun.gie = s.gie := pwmRun_gie s

@[simp] theorem freeRun_bgRun (s : State) : s.freeRun.bgRun = s.bgRun := pwmRun_bgRun s

@[simp] theorem freeRun_pstate (s : State) : s.freeRun.pstate = s.pstate := pwmRun_pstate s

@[simp] theorem freeRun_dly (s : State) : s.freeRun.dly = s.dly := pwmRun_dly s

@[simp] theorem freeRun_seq (s : State) : s.freeRun.seq = s.seq := pwmRun_seq s

@[simp] theorem freeRun_params (s : State) : s.freeRun.params = s.params := pwmRun_params s

@[simp] theorem freeRun_inputs (s : State) : s.freeRun.inputs = s.inputs.tail := rfl

@[simp] theorem freeRun_edges (s : State) : s.freeRun.edges = s.edges + 1 := rfl

/-! The close of a tick writes SEQ and PCIF only. -/

@[simp] theorem finish_mode (s : State) (sig : Signals) (t : State) : (s.finish sig t).mode = t.mode := rfl

@[simp] theorem finish_fullbright (s : State) (sig : Signals) (t : State) : (s.finish sig t).fullbright = t.fullbright := rfl

@[simp] theorem finish_pwmEn (s : State) (sig : Signals) (t : State) : (s.finish sig t).pwmEn = t.pwmEn := rfl

@[simp] theorem finish_pwmPre (s : State) (sig : Signals) (t : State) : (s.finish sig t).pwmPre = t.pwmPre := rfl

@[simp] theorem finish_pwmCnt (s : State) (sig : Signals) (t : State) : (s.finish sig t).pwmCnt = t.pwmCnt := rfl

@[simp] theorem finish_pwmCmpBuf (s : State) (sig : Signals) (t : State) : (s.finish sig t).pwmCmpBuf = t.pwmCmpBuf := rfl

@[simp] theorem finish_pwmCmp (s : State) (sig : Signals) (t : State) : (s.finish sig t).pwmCmp = t.pwmCmp := rfl

@[simp] theorem finish_ledForce (s : State) (sig : Signals) (t : State) : (s.finish sig t).ledForce = t.ledForce := rfl

@[simp] theorem finish_btnRaw (s : State) (sig : Signals) (t : State) : (s.finish sig t).btnRaw = t.btnRaw := rfl

@[simp] theorem finish_pressed (s : State) (sig : Signals) (t : State) : (s.finish sig t).pressed = t.pressed := rfl

@[simp] theorem finish_btnPrev (s : State) (sig : Signals) (t : State) : (s.finish sig t).btnPrev = t.btnPrev := rfl

@[simp] theorem finish_pcie (s : State) (sig : Signals) (t : State) : (s.finish sig t).pcie = t.pcie := rfl

@[simp] theorem finish_pcif (s : State) (sig : Signals) (t : State) : (s.finish sig t).pcif = (t.pcif || (s.pcie && s.edge)) := rfl

@[simp] theorem finish_gie (s : State) (sig : Signals) (t : State) : (s.finish sig t).gie = t.gie := rfl

@[simp] theorem finish_bgRun (s : State) (sig : Signals) (t : State) : (s.finish sig t).bgRun = t.bgRun := rfl

@[simp] theorem finish_pstate (s : State) (sig : Signals) (t : State) : (s.finish sig t).pstate = t.pstate := rfl

@[simp] theorem finish_dly (s : State) (sig : Signals) (t : State) : (s.finish sig t).dly = t.dly := rfl

@[simp] theorem finish_seq (s : State) (sig : Signals) (t : State) : (s.finish sig t).seq = successor s.seq sig := rfl

@[simp] theorem finish_params (s : State) (sig : Signals) (t : State) : (s.finish sig t).params = t.params := rfl

@[simp] theorem finish_inputs (s : State) (sig : Signals) (t : State) : (s.finish sig t).inputs = t.inputs := rfl

@[simp] theorem finish_edges (s : State) (sig : Signals) (t : State) : (s.finish sig t).edges = t.edges := rfl

/-! Power-on reset gives every register its reset value (10_state.md R41). -/

@[simp] theorem powerOn_mode (s : State) : s.powerOn.mode = .off := rfl

@[simp] theorem powerOn_fullbright (s : State) : s.powerOn.fullbright = s.params.fullBrightnessDefault := rfl

@[simp] theorem powerOn_pwmEn (s : State) : s.powerOn.pwmEn = false := rfl

@[simp] theorem powerOn_pwmPre (s : State) : s.powerOn.pwmPre = 0 := rfl

@[simp] theorem powerOn_pwmCnt (s : State) : s.powerOn.pwmCnt = 0 := rfl

@[simp] theorem powerOn_pwmCmpBuf (s : State) : s.powerOn.pwmCmpBuf = 0 := rfl

@[simp] theorem powerOn_pwmCmp (s : State) : s.powerOn.pwmCmp = 0 := rfl

@[simp] theorem powerOn_ledForce (s : State) : s.powerOn.ledForce = false := rfl

@[simp] theorem powerOn_btnRaw (s : State) : s.powerOn.btnRaw = true := rfl

@[simp] theorem powerOn_pressed (s : State) : s.powerOn.pressed = false := rfl

@[simp] theorem powerOn_btnPrev (s : State) : s.powerOn.btnPrev = true := rfl

@[simp] theorem powerOn_pcie (s : State) : s.powerOn.pcie = false := rfl

@[simp] theorem powerOn_pcif (s : State) : s.powerOn.pcif = false := rfl

@[simp] theorem powerOn_gie (s : State) : s.powerOn.gie = false := rfl

@[simp] theorem powerOn_bgRun (s : State) : s.powerOn.bgRun = false := rfl

@[simp] theorem powerOn_pstate (s : State) : s.powerOn.pstate = .idle := rfl

@[simp] theorem powerOn_dly (s : State) : s.powerOn.dly = 0 := rfl

@[simp] theorem powerOn_seq (s : State) : s.powerOn.seq = .sBootBg := rfl

@[simp] theorem powerOn_params (s : State) : s.powerOn.params = s.params := rfl

@[simp] theorem powerOn_inputs (s : State) : s.powerOn.inputs = s.inputs.tail := rfl

@[simp] theorem powerOn_edges (s : State) : s.powerOn.edges = s.edges + 1 := rfl

/-! Wake entry writes DLY only. -/

@[simp] theorem wakeEntry_mode (s t : State) : (s.wakeEntry t).mode = t.mode := by
  unfold State.wakeEntry; split <;> rfl

@[simp] theorem wakeEntry_fullbright (s t : State) : (s.wakeEntry t).fullbright = t.fullbright := by
  unfold State.wakeEntry; split <;> rfl

@[simp] theorem wakeEntry_pwmEn (s t : State) : (s.wakeEntry t).pwmEn = t.pwmEn := by
  unfold State.wakeEntry; split <;> rfl

@[simp] theorem wakeEntry_pwmPre (s t : State) : (s.wakeEntry t).pwmPre = t.pwmPre := by
  unfold State.wakeEntry; split <;> rfl

@[simp] theorem wakeEntry_pwmCnt (s t : State) : (s.wakeEntry t).pwmCnt = t.pwmCnt := by
  unfold State.wakeEntry; split <;> rfl

@[simp] theorem wakeEntry_pwmCmpBuf (s t : State) : (s.wakeEntry t).pwmCmpBuf = t.pwmCmpBuf := by
  unfold State.wakeEntry; split <;> rfl

@[simp] theorem wakeEntry_pwmCmp (s t : State) : (s.wakeEntry t).pwmCmp = t.pwmCmp := by
  unfold State.wakeEntry; split <;> rfl

@[simp] theorem wakeEntry_ledForce (s t : State) : (s.wakeEntry t).ledForce = t.ledForce := by
  unfold State.wakeEntry; split <;> rfl

@[simp] theorem wakeEntry_btnRaw (s t : State) : (s.wakeEntry t).btnRaw = t.btnRaw := by
  unfold State.wakeEntry; split <;> rfl

@[simp] theorem wakeEntry_pressed (s t : State) : (s.wakeEntry t).pressed = t.pressed := by
  unfold State.wakeEntry; split <;> rfl

@[simp] theorem wakeEntry_btnPrev (s t : State) : (s.wakeEntry t).btnPrev = t.btnPrev := by
  unfold State.wakeEntry; split <;> rfl

@[simp] theorem wakeEntry_pcie (s t : State) : (s.wakeEntry t).pcie = t.pcie := by
  unfold State.wakeEntry; split <;> rfl

@[simp] theorem wakeEntry_pcif (s t : State) : (s.wakeEntry t).pcif = t.pcif := by
  unfold State.wakeEntry; split <;> rfl

@[simp] theorem wakeEntry_gie (s t : State) : (s.wakeEntry t).gie = t.gie := by
  unfold State.wakeEntry; split <;> rfl

@[simp] theorem wakeEntry_bgRun (s t : State) : (s.wakeEntry t).bgRun = t.bgRun := by
  unfold State.wakeEntry; split <;> rfl

@[simp] theorem wakeEntry_pstate (s t : State) : (s.wakeEntry t).pstate = t.pstate := by
  unfold State.wakeEntry; split <;> rfl

@[simp] theorem wakeEntry_dly (s t : State) :
    (s.wakeEntry t).dly = if s.wake then s.params.wakeLatency s.pstate else t.dly := by
  unfold State.wakeEntry; split <;> rfl

@[simp] theorem wakeEntry_seq (s t : State) : (s.wakeEntry t).seq = t.seq := by
  unfold State.wakeEntry; split <;> rfl

@[simp] theorem wakeEntry_params (s t : State) : (s.wakeEntry t).params = t.params := by
  unfold State.wakeEntry; split <;> rfl

@[simp] theorem wakeEntry_inputs (s t : State) : (s.wakeEntry t).inputs = t.inputs := by
  unfold State.wakeEntry; split <;> rfl

@[simp] theorem wakeEntry_edges (s t : State) : (s.wakeEntry t).edges = t.edges := by
  unfold State.wakeEntry; split <;> rfl

/-! A whole tick: what the operation wrote, but for SEQ and PCIF. -/

@[simp] theorem tick_mode (s : State) (sig : Signals) (w : State → State) :
    (s.tick sig w).mode = (w s.freeRun).mode := rfl

@[simp] theorem tick_fullbright (s : State) (sig : Signals) (w : State → State) :
    (s.tick sig w).fullbright = (w s.freeRun).fullbright := rfl

@[simp] theorem tick_pwmEn (s : State) (sig : Signals) (w : State → State) :
    (s.tick sig w).pwmEn = (w s.freeRun).pwmEn := rfl

@[simp] theorem tick_pwmPre (s : State) (sig : Signals) (w : State → State) :
    (s.tick sig w).pwmPre = (w s.freeRun).pwmPre := rfl

@[simp] theorem tick_pwmCnt (s : State) (sig : Signals) (w : State → State) :
    (s.tick sig w).pwmCnt = (w s.freeRun).pwmCnt := rfl

@[simp] theorem tick_pwmCmpBuf (s : State) (sig : Signals) (w : State → State) :
    (s.tick sig w).pwmCmpBuf = (w s.freeRun).pwmCmpBuf := rfl

@[simp] theorem tick_pwmCmp (s : State) (sig : Signals) (w : State → State) :
    (s.tick sig w).pwmCmp = (w s.freeRun).pwmCmp := rfl

@[simp] theorem tick_ledForce (s : State) (sig : Signals) (w : State → State) :
    (s.tick sig w).ledForce = (w s.freeRun).ledForce := rfl

@[simp] theorem tick_btnRaw (s : State) (sig : Signals) (w : State → State) :
    (s.tick sig w).btnRaw = (w s.freeRun).btnRaw := rfl

@[simp] theorem tick_pressed (s : State) (sig : Signals) (w : State → State) :
    (s.tick sig w).pressed = (w s.freeRun).pressed := rfl

@[simp] theorem tick_btnPrev (s : State) (sig : Signals) (w : State → State) :
    (s.tick sig w).btnPrev = (w s.freeRun).btnPrev := rfl

@[simp] theorem tick_pcie (s : State) (sig : Signals) (w : State → State) :
    (s.tick sig w).pcie = (w s.freeRun).pcie := rfl

@[simp] theorem tick_pcif (s : State) (sig : Signals) (w : State → State) :
    (s.tick sig w).pcif = ((w s.freeRun).pcif || (s.pcie && s.edge)) := rfl

@[simp] theorem tick_gie (s : State) (sig : Signals) (w : State → State) :
    (s.tick sig w).gie = (w s.freeRun).gie := rfl

@[simp] theorem tick_bgRun (s : State) (sig : Signals) (w : State → State) :
    (s.tick sig w).bgRun = (w s.freeRun).bgRun := rfl

@[simp] theorem tick_pstate (s : State) (sig : Signals) (w : State → State) :
    (s.tick sig w).pstate = (w s.freeRun).pstate := rfl

@[simp] theorem tick_dly (s : State) (sig : Signals) (w : State → State) :
    (s.tick sig w).dly = (w s.freeRun).dly := rfl

@[simp] theorem tick_seq (s : State) (sig : Signals) (w : State → State) :
    (s.tick sig w).seq = successor s.seq sig := rfl

@[simp] theorem tick_params (s : State) (sig : Signals) (w : State → State) :
    (s.tick sig w).params = (w s.freeRun).params := rfl

@[simp] theorem tick_inputs (s : State) (sig : Signals) (w : State → State) :
    (s.tick sig w).inputs = (w s.freeRun).inputs := rfl

@[simp] theorem tick_edges (s : State) (sig : Signals) (w : State → State) :
    (s.tick sig w).edges = (w s.freeRun).edges := rfl

end Sys2Proof.Machine
end

