-- ==== Sys2Proof/Laws/Ops.lean ====
section
/-! SUPPORT. For each shared operation, what it can do, said once. -/

namespace Sys2Proof.Machine

/-- The PWM update by cases: stopped; a wrap-around with its latch; the counter counts; the prescaler counts. -/
theorem pwmRun_cases (s : State) :
    (s.pwmEn = false ∧ s.pwmRun = s) ∨
    (s.pwmWraps = true ∧ s.pwmRun = { s with pwmPre := 0, pwmCnt := 0, pwmCmp := s.pwmCmpBuf }) ∨
    (s.pwmEn = true ∧ s.pwmPre = s.params.pwmDiv - 1 ∧ s.pwmCnt.toNat ≠ s.params.pwmTop - 1 ∧
      s.pwmRun = { s with pwmPre := 0, pwmCnt := s.pwmCnt + 1 }) ∨
    (s.pwmEn = true ∧ s.pwmPre ≠ s.params.pwmDiv - 1 ∧ s.pwmRun = { s with pwmPre := s.pwmPre + 1 }) := by
  unfold State.pwmRun State.pwmWraps
  by_cases he : s.pwmEn <;> by_cases hp : s.pwmPre = s.params.pwmDiv - 1 <;>
    by_cases hc : s.pwmCnt.toNat = s.params.pwmTop - 1 <;> simp [he, hp, hc]

/-- The PWM update keeps the counter and the prescaler in their ranges (10_state.md R45 (b)). -/
theorem pwmRun_inRange (s : State) (h : s.InRange) :
    s.pwmRun.pwmCnt.toNat < s.params.pwmTop ∧ s.pwmRun.pwmPre < s.params.pwmDiv := by
  obtain ⟨hp, hc, hd⟩ := h
  simp only [Params.wf, Bool.and_eq_true, decide_eq_true_eq] at hp
  rcases pwmRun_cases s with ⟨_, h⟩ | ⟨_, h⟩ | ⟨_, _, hn, h⟩ | ⟨_, hn, h⟩ <;> rw [h]
  · exact ⟨hc, hd⟩
  · simp; omega
  · simp only [BitVec.toNat_add]
    simp; omega
  · simp; omega

/-- The PWM update latches the buffer or leaves PWM_CMP alone (42_pwm.md R155). -/
theorem pwmRun_cmp_eq (s : State) :
    s.pwmRun.pwmCmp = if s.pwmWraps then s.pwmCmpBuf else s.pwmCmp := by
  unfold State.pwmRun State.pwmWraps
  by_cases he : s.pwmEn <;> by_cases hp : s.pwmPre = s.params.pwmDiv - 1 <;>
    by_cases hc : s.pwmCnt.toNat = s.params.pwmTop - 1 <;> simp [he, hp, hc]

/-- A step is a power-on reset or the tick of the operation that SEQ names. -/
theorem step_cases (s : State) :
    (s.por = true ∧ step s = .next s.powerOn) ∨ (s.por = false ∧ step s = exec s.op s) := by
  unfold step; cases s.por <;> simp

/-- `State.next` is what a step answers, when it answers a next state. -/
theorem next_of_step (s t : State) (h : step s = .next t) : s.next = t := by unfold State.next; rw [h]

/-- The parameters, the pending inputs and the edge count move in the same way whatever the operation. -/
theorem exec_bookkeeping (i : Instr) (s t : State) (h : exec i s = .next t) :
    t.params = s.params ∧ t.inputs = s.inputs.tail ∧ t.edges = s.edges + 1 := by
  cases i <;>
    simp only [exec, execBgStart, execBgStop, execBgRestart, execSelftestOn, execSelftestWait, execPoll, execDebounce,
      execAdvance, execDispatch, execPwmEnable, execPwmDisable, execSetDuty, execReqSleep, execArmWake, execSelect,
      execSleep, execWakeup, execCli, execClrWakeFlag, execDisarmWake, execSei, State.tick,
      Host.Outcome.next.injEq] at h <;> subst h <;> (try split) <;> simp

/-- The input sample j edges ahead, one edge later. -/
theorem inputAt_of_tail (s t : State) (hi : t.inputs = s.inputs.tail) (he : t.edges = s.edges + 1) (j : Nat) :
    t.inputAt j = s.inputAt (j + 1) := by
  unfold State.inputAt
  rw [hi, he]
  cases s.inputs with
  | nil => simp; constructor <;> congr 1 <;> omega
  | cons a l =>
    simp only [List.tail_cons, List.getElem?_cons_succ]
    cases l[j]? with
    | none => simp; constructor <;> congr 1 <;> omega
    | some v => rfl

end Sys2Proof.Machine
end

