-- ==== Sys2Proof/Laws/PerInstr.lean ====
section
/-! SUPPORT. Statements made per operation: its encoding is a well-formed operation word. -/

namespace Sys2Proof.Laws.WfOfEncode

/-- The encoding of the operation is a well-formed word (30_encoding.md R88, R89). -/
def Statement (i : Instr) : Prop := (Uop.ofWord (encode i)).wf = true

theorem bgStart : Statement .bgStart := by unfold Statement; decide

theorem bgStop : Statement .bgStop := by unfold Statement; decide

theorem bgRestart : Statement .bgRestart := by unfold Statement; decide

theorem selftestOn : Statement .selftestOn := by unfold Statement; decide

theorem selftestWait : Statement .selftestWait := by unfold Statement; decide

theorem poll : Statement .poll := by unfold Statement; decide

theorem debounce : Statement .debounce := by unfold Statement; decide

theorem advance : Statement .advance := by unfold Statement; decide

theorem dispatch : Statement .dispatch := by unfold Statement; decide

theorem pwmEnable : Statement .pwmEnable := by unfold Statement; decide

theorem pwmDisable : Statement .pwmDisable := by unfold Statement; decide

theorem setDuty (v : Byte) : Statement (.setDuty v) := by
  unfold Statement; revert v; decide

theorem reqSleep (d : Depth) : Statement (.reqSleep d) := by unfold Statement; cases d <;> decide

theorem armWake : Statement .armWake := by unfold Statement; decide

theorem select : Statement .select := by unfold Statement; decide

theorem sleep (d : Depth) : Statement (.sleep d) := by unfold Statement; cases d <;> decide

theorem wakeup (d : Depth) : Statement (.wakeup d) := by unfold Statement; cases d <;> decide

theorem cli : Statement .cli := by unfold Statement; decide

theorem clrWakeFlag : Statement .clrWakeFlag := by unfold Statement; decide

theorem disarmWake : Statement .disarmWake := by unfold Statement; decide

theorem sei : Statement .sei := by unfold Statement; decide

end Sys2Proof.Laws.WfOfEncode
end

