-- ==== Sys2Proof/Laws/Run.lean ====
section
/-! SUPPORT. How runs compose: σ split in two, the parameters and the input samples along a run, and the two kinds of
clock edge. -/

namespace Sys2Proof.Machine

/-- Every operation has a meaning in every state. -/
theorem exec_answers (i : Instr) (s : State) : ∃ t, exec i s = .next t := by cases i <;> exact ⟨_, rfl⟩

/-- In a tick without `por` the next state is what the issued operation gives. -/
theorem next_of_exec (s t : State) (hp : s.por = false) (h : exec s.op s = .next t) : s.next = t :=
  next_of_step _ _ (by simp [step, hp, h])

/-- With `por` the next state is the reset state. -/
theorem next_of_por (s : State) (hp : s.por = true) : s.next = s.powerOn := next_of_step _ _ (by simp [step, hp])

/-- SEQ moves by the successor table in every operation. -/
theorem exec_seq (i : Instr) (s t : State) (h : exec i s = .next t) : t.seq = successor s.seq (s.signals i) := by
  cases i <;>
    simp only [exec, execBgStart, execBgStop, execBgRestart, execSelftestOn, execSelftestWait, execPoll, execDebounce,
      execAdvance, execDispatch, execPwmEnable, execPwmDisable, execSetDuty, execReqSleep, execArmWake, execSelect,
      execSleep, execWakeup, execCli, execClrWakeFlag, execDisarmWake, execSei] at h <;> cases h <;> rfl

/-- The successor of a tick without `por`. -/
theorem next_seq (s : State) (hp : s.por = false) : s.next.seq = successor s.seq (s.signals s.op) := by
  obtain ⟨t, h⟩ := exec_answers s.op s
  rw [next_of_exec s t hp h]
  exact exec_seq _ _ _ h

/-- What every clock edge does with the model's own fields. -/
theorem next_bookkeeping (s : State) :
    s.next.params = s.params ∧ s.next.inputs = s.inputs.tail ∧ s.next.edges = s.edges + 1 := by
  cases hp : s.por with
  | true => rw [next_of_por s hp]; exact ⟨rfl, rfl, rfl⟩
  | false =>
    obtain ⟨t, h⟩ := exec_answers s.op s
    rw [next_of_exec s t hp h]
    exact exec_bookkeeping _ _ _ h

/-- A run of n + 1 edges is one edge and a run of n. -/
theorem sigma_next (s : State) (n : Nat) : s.sigma (n + 1) = s.next.sigma n := by
  induction n with
  | zero => rfl
  | succ n ih => rw [State.sigma, ih]; rfl

/-- A run of m + n edges is a run of m and a run of n. -/
theorem sigma_add (s : State) (m n : Nat) : s.sigma (m + n) = (s.sigma m).sigma n := by
  induction n with
  | zero => rfl
  | succ n ih => rw [← Nat.add_assoc, State.sigma, ih]; rfl

@[simp] theorem sigma_params (s : State) (n : Nat) : (s.sigma n).params = s.params := by
  induction n with
  | zero => rfl
  | succ n ih => rw [State.sigma, (next_bookkeeping _).1, ih]

/-- The input sample j edges ahead, n edges later. -/
theorem inputAt_sigma (s : State) (n j : Nat) : (s.sigma n).inputAt j = s.inputAt (n + j) := by
  induction n generalizing j with
  | zero => simp [State.sigma]
  | succ n ih =>
    rw [State.sigma, inputAt_of_tail _ _ (next_bookkeeping _).2.1 (next_bookkeeping _).2.2, ih]
    congr 1; omega

/-- Along a powered run every edge is a tick. -/
theorem por_sigma (s : State) (n k : Nat) (h : s.Powered n) (hk : k < n) : (s.sigma k).por = false := by
  unfold State.por; rw [inputAt_sigma]; exact h _ (by omega)

/-- The rest of a powered run is powered. -/
theorem powered_sigma (s : State) (n k m : Nat) (h : s.Powered n) (hk : k + m ≤ n) : (s.sigma k).Powered m := by
  intro j hj; rw [inputAt_sigma]; exact h _ (by omega)

end Sys2Proof.Machine
end

