-- ==== Sys2Proof/Tests/Slice0.lean ====
section
/-! SUPPORT. The model's own tests. Expected results are the spec's: the tables of 30_encoding.md R87 and the vectors of
95_test_vectors.md, named after the vector. At the end, a concrete case for the hypotheses of each statement. -/

namespace Sys2Proof.Tests

open Sys2Proof.Machine

/-! ## WellFormed: each check refuses an ill-formed term -/

theorem test_wf_opcode_zero : (Uop.mk 0x00 0).wf = false := by decide
theorem test_wf_opcode_after_last : (Uop.mk 0x16 0).wf = false := by decide
theorem test_wf_operand_on_plain_operation : (Uop.mk 0x06 0x01).wf = false := by decide
theorem test_wf_depth_above_one : (Uop.mk 0x10 0x02).wf = false := by decide
theorem test_wf_every_duty : (Uop.mk 0x0C 0xFF).wf = true := by decide
theorem test_wf_debounce_zero : ({ debounceMs := 0 } : Params).wf = false := by decide
theorem test_wf_startup_zero : ({ startupMs := 0 } : Params).wf = false := by decide
theorem test_wf_top_zero : ({ pwmTop := 0 } : Params).wf = false := by decide
theorem test_wf_top_256 : ({ pwmTop := 256 } : Params).wf = false := by decide
theorem test_wf_ticks_zero : ({ ticksPerMs := 0 } : Params).wf = false := by decide
theorem test_wf_div_zero : ({ pwmDiv := 0 } : Params).wf = false := by decide
theorem test_wf_idle_latency_zero : ({ tWakeIdle := 0 } : Params).wf = false := by decide
theorem test_wf_deep_below_idle : ({ tWakeIdle := 2, tWakeDeep := 1 } : Params).wf = false := by decide

/-! ## Decode: every row of R87, its word written out bit by bit -/

theorem test_decode_bgStart : decode 0b0000100000000 = .ok .bgStart := by rfl
theorem test_decode_bgStop : decode 0b0001000000000 = .ok .bgStop := by rfl
theorem test_decode_bgRestart : decode 0b0001100000000 = .ok .bgRestart := by rfl
theorem test_decode_selftestOn : decode 0b0010000000000 = .ok .selftestOn := by rfl
theorem test_decode_selftestWait : decode 0b0010100000000 = .ok .selftestWait := by rfl
theorem test_decode_poll : decode 0b0011000000000 = .ok .poll := by rfl
theorem test_decode_debounce : decode 0b0011100000000 = .ok .debounce := by rfl
theorem test_decode_advance : decode 0b0100000000000 = .ok .advance := by rfl
theorem test_decode_dispatch : decode 0b0100100000000 = .ok .dispatch := by rfl
theorem test_decode_pwmEnable : decode 0b0101000000000 = .ok .pwmEnable := by rfl
theorem test_decode_pwmDisable : decode 0b0101100000000 = .ok .pwmDisable := by rfl
theorem test_decode_setDuty : decode 0b0110011111010 = .ok (.setDuty 250) := by rfl
theorem test_decode_reqSleep_idle : decode 0b0110100000000 = .ok (.reqSleep .idle) := by rfl
theorem test_decode_reqSleep_deepest : decode 0b0110100000001 = .ok (.reqSleep .deepest) := by rfl
theorem test_decode_armWake : decode 0b0111000000000 = .ok .armWake := by rfl
theorem test_decode_select : decode 0b0111100000000 = .ok .select := by rfl
theorem test_decode_sleep : decode 0b1000000000001 = .ok (.sleep .deepest) := by rfl
theorem test_decode_wakeup : decode 0b1000100000000 = .ok (.wakeup .idle) := by rfl
theorem test_decode_cli : decode 0b1001000000000 = .ok .cli := by rfl
theorem test_decode_clrWakeFlag : decode 0b1001100000000 = .ok .clrWakeFlag := by rfl
theorem test_decode_disarmWake : decode 0b1010000000000 = .ok .disarmWake := by rfl
theorem test_decode_sei : decode 0b1010100000000 = .ok .sei := by rfl
theorem test_decode_reserved_opcode : decode 0b1011000000000 = .error (.reservedOpcode 0x16) := by rfl
theorem test_decode_reserved_operand : decode 0b0000100000001 = .error (.reservedOperand 0x01 0x01) := by rfl
theorem test_decode_reserved_depth : decode 0b0110100000010 = .error (.reservedOperand 0x0D 0x02) := by rfl
theorem test_decode_bytes_over_wide : decodeBytes [0x00, 0x21] = .error .overWide := by rfl
theorem test_decode_bytes_length : decodeBytes [0x00] = .error (.wrongLength 1) := by rfl
theorem test_decode_table_word : decodeTableWord 16 0x0CFA = some (.setDuty 250) := by rfl

/-! ## Text (R91): the examples of the rule -/

theorem test_text_decimal : parseLine "SET_DUTY 250" = .ok (some (.setDuty 250)) := by decide
theorem test_text_hex_comment : parseLine "SET_DUTY 0xFA ; full" = .ok (some (.setDuty 250)) := by decide
theorem test_text_reqSleep : parseLine "REQ_SLEEP 1" = .ok (some (.reqSleep .deepest)) := by decide
theorem test_text_plain : parseLine "PWM_ENABLE" = .ok (some .pwmEnable) := by decide
theorem test_text_comment_only : parseLine "; nothing" = .ok none := by decide
theorem test_text_unknown : parseLine "NOP" = .error .unknownOperation := by decide
theorem test_text_depth_range : parseLine "SLEEP 2" = .error .operandRange := by decide

/-! ## One tick: the vectors of 95_test_vectors.md section 3 -/

/-- The pre-state of a vector: the reset state with SEQ set and the inputs of the tick. -/
def pre (q : Seq) (btn bgTick : Bool) : State :=
  { State.resetWith {} [{ btn := btn, bgTick := bgTick }] 0 with seq := q }

/-- The pre-state one edge later, at the sequencer state `q`. -/
def post (s : State) (q : Seq) : State := { s with seq := q, inputs := [], edges := 1 }

def m5 : State := { pre .sAdvance true false with mode := .fade, pressed := true }
theorem test_M5_advance_wraps : m5.next = { post m5 .sDispatch with mode := .off } := by decide

def m6 : State := { pre .sAdvance true false with mode := .fastBlink }
theorem test_M6_advance_without_press : m6.next = post m6 .sDispatch := by decide

theorem test_M7_dispatch_off : (pre .sDispatch true false).next = post (pre .sDispatch true false) .sOffPwm := by decide

def m8 : State := { pre .sDispatch true false with mode := .fade }
theorem test_M8_dispatch_driving : m8.next = post m8 .sOnPwm := by decide

def b1 : State := { pre .sPoll true false with pressed := true, btnRaw := false }
theorem test_B1_poll_released : b1.next = { post b1 .sAdvance with btnRaw := true, pressed := false } := by decide

def b7 : State := { pre .sPoll false false with pcie := true }
theorem test_B7_poll_pressed : b7.next =
    { post b7 .sDebounce with btnRaw := false, btnPrev := false, pcif := true, dly := 100 } := by decide

def b3 : State := { pre .sDebounce true false with dly := 100, btnRaw := false }
theorem test_B3_debounce_counts : b3.next = { post b3 .sDebounce with dly := 99 } := by decide

def b5 : State := { pre .sDebounce false false with dly := 1, btnRaw := false }
theorem test_B5_debounce_confirms : b5.next =
    { post b5 .sAdvance with pressed := true, btnPrev := false, dly := 0 } := by decide

def w1 : State := { pre .sOnPwm true false with mode := .on, pwmCmpBuf := 125, pwmCmp := 62 }
theorem test_W1_enable_latches : w1.next = { post w1 .sOnDuty with pwmEn := true, pwmCmp := 125 } := by decide

def w3 : State := { pre .sOnPwm true false with mode := .on, pwmEn := true, pwmCnt := 254, pwmCmpBuf := 125, pwmCmp := 250 }
theorem test_W3_enabled_wraps : w3.next = { post w3 .sOnDuty with pwmCnt := 0, pwmCmp := 125 } := by decide

def w5 : State := { pre .sOnDuty true false with mode := .fade, pwmEn := true, pwmCnt := 254, pwmCmpBuf := 31, pwmCmp := 62 }
theorem test_W5_duty_on_wrap : w5.next =
    { post w5 .sOnReq with pwmCnt := 0, pwmCmpBuf := 125, pwmCmp := 31 } := by decide

def w7 : State := { pre .sOnDuty true false with mode := .fastBlink, pwmEn := true, pwmCnt := 10, pwmCmpBuf := 250, pwmCmp := 250 }
theorem test_W7_duty_shift : w7.next = { post w7 .sOnReq with pwmCnt := 11, pwmCmpBuf := 62 } := by decide

def w8 : State := { pre .sOffPwm true false with pwmEn := true, pwmCnt := 200, pwmCmpBuf := 125, pwmCmp := 125 }
theorem test_W8_disable : w8.next = { post w8 .sOffReq with pwmEn := false, pwmCnt := 0 } := by decide

def w9 : State := { pre .sOffPwm true false with pwmEn := true, pwmCnt := 254, pwmCmpBuf := 31, pwmCmp := 125 }
theorem test_W9_disable_on_wrap : w9.next = { post w9 .sOffReq with pwmEn := false, pwmCnt := 0 } := by decide

theorem test_P1_request_deepest : (pre .sOffReq true false).next =
    { post (pre .sOffReq true false) .sArm with pstate := .deepest } := by decide

def p2 : State := { pre .sOnReq true false with mode := .on, pstate := .deepest, pwmEn := true }
theorem test_P2_request_idle : p2.next = { post p2 .sArm with pwmCnt := 1, pstate := .idle } := by decide

def p4 : State := { pre .sArm false false with gie := true }
theorem test_P4_edge_while_arming : p4.next = { post p4 .sSelect with btnPrev := false, pcie := true } := by decide

def p5 : State := { pre .sSelect true false with pstate := .deepest, pcie := true, gie := true }
theorem test_P5_select_deepest : p5.next = post p5 .sDeepBg := by decide

def p7 : State := { pre .sSelect false false with pcie := true, gie := true, pwmEn := true, mode := .on, bgRun := true }
theorem test_P7_select_idle_with_edge : p7.next =
    { post p7 .sSleep with pwmCnt := 1, btnPrev := false, pcif := true } := by decide

def p8 : State := { pre .sDeepBg true false with pstate := .deepest, pcie := true, gie := true, bgRun := true }
theorem test_P8_timer_stops : p8.next = { post p8 .sDeepPwm with bgRun := false } := by decide

theorem test_P9_timer_starts : (pre .sBootBg true false).next =
    { post (pre .sBootBg true false) .sSelftestOn with bgRun := true } := by decide

def p10 : State := { pre .sSleep true true with pstate := .deepest, pcie := true, gie := true }
theorem test_P10_tick_in_deepest_sleep : p10.next = post p10 .sSleep := by decide

def p13 : State :=
  { pre .sSleep true true with mode := .on, pwmEn := true, pwmCnt := 5, pwmCmp := 250, pwmCmpBuf := 250, pcie := true,
                               gie := true, bgRun := true }
theorem test_P13_tick_wakes_idle_sleep : p13.next = { post p13 .sWakeup with pwmCnt := 6, dly := 1 } := by decide

def p19 : State := { pre .sWakeup true false with pstate := .deepest, pcie := true, pcif := true, gie := true, dly := 5 }
theorem test_P19_wake_latency : p19.next = { post p19 .sWakeup with dly := 4 } := by decide

def p20 : State := { p19 with dly := 1 }
theorem test_P20_wake_latency_over : p20.next = { post p20 .sWakeCli with dly := 0 } := by decide

def p21 : State := { pre .sWakeCli true false with pstate := .deepest, pcie := true, pcif := true, gie := true }
theorem test_P21_mask : p21.next = { post p21 .sWakeClrf with gie := false } := by decide

def p22 : State := { pre .sWakeClrf false false with pstate := .deepest, pcie := true, pcif := true, btnPrev := false }
theorem test_P22_flag_cleared : p22.next = { post p22 .sWakeDisarm with pcif := false } := by decide

def p23 : State := { pre .sWakeClrf true false with pstate := .deepest, pcie := true, pcif := true, btnPrev := false }
theorem test_P23_set_wins : p23.next = { post p23 .sWakeDisarm with btnPrev := true } := by decide

def p25 : State := { pre .sWakeDisarm true false with pstate := .deepest, pcie := true, btnPrev := false }
theorem test_P25_edge_while_disarming : p25.next =
    { post p25 .sWakeBg with btnPrev := true, pcie := false, pcif := true } := by decide

def p28 : State := { pre .sWakeBg true false with pstate := .deepest, btnPrev := false }
theorem test_P28_restart_after_deepest : p28.next =
    { post p28 .sWakeSei with btnPrev := true, bgRun := true } := by decide

def p27 : State := { pre .sWakeBg true false with bgRun := true, mode := .on, pwmEn := true }
theorem test_P27_restart_after_idle : p27.next = { post p27 .sWakeSei with pwmCnt := 1 } := by decide

def p29 : State := { pre .sWakeSei true false with pstate := .deepest, bgRun := true }
theorem test_P29_unmask : p29.next = { post p29 .sPoll with gie := true } := by decide

def q1 : State := { pre .sSelftestOn true false with bgRun := true }
theorem test_Q1_selftest_on : q1.next = { post q1 .sSelftestWt with ledForce := true, dly := 500 } := by decide

def q2 : State := { pre .sSelftestWt true false with bgRun := true, ledForce := true, dly := 500 }
theorem test_Q2_selftest_counts : q2.next = { post q2 .sSelftestWt with dly := 499 } := by decide

def q3 : State := { q2 with dly := 1 }
theorem test_Q3_selftest_over : q3.next = { post q3 .sBootSei with ledForce := false, dly := 0 } := by decide

def q4 : State := { pre .sBootSei true false with bgRun := true }
theorem test_Q4_boot_unmask : q4.next = { post q4 .sPoll with gie := true } := by decide

/-! ## The fetch interface and reset -/

theorem test_reset_outputs : State.reset.opTrace = 0x0100 := by decide
theorem test_fetch_setDuty : (State.reset.withFetchWord 16 0x0C1F).op = .setDuty 31 := by rfl
theorem test_fetch_reserved : State.reset.withFetchWord 16 0x1600 = State.reset := by rfl
theorem test_por_from_sleep : ({ p13 with inputs := [{ por := true, btn := false, bgTick := true }] } : State).next =
    State.resetWith {} [] 1 := by decide

/-! ## States for the cases below -/

/-- Scaled-down parameters: 3 ticks of debounce, 4 of self-test, a PWM period of 6 ticks. -/
def small : Params := { debounceMs := 3, startupMs := 4, pwmTop := 3, pwmDiv := 2, tWakeIdle := 1, tWakeDeep := 2 }

/-- The same input sample n times. -/
def steady (btn bgTick : Bool) (n : Nat) : List Inputs := List.replicate n { btn := btn, bgTick := bgTick }

/-- A state of a run in mode On, at the sequencer state `q`. -/
def onAt (q : Seq) (ins : List Inputs) : State :=
  { State.resetWith small ins 0 with
    mode := .on, pwmEn := true, pwmCmpBuf := 250, pwmCmp := 250, gie := gieAt q, pcie := pcieAt q, bgRun := true, seq := q }

/-- A state of a run in mode Off, at the sequencer state `q`. -/
def offAt (q : Seq) (ins : List Inputs) : State :=
  { State.resetWith small ins 0 with
    gie := gieAt q, pcie := pcieAt q, bgRun := bgRunAt q .deepest, pstate := .deepest, seq := q }


theorem onAt_inv (q : Seq) (ins : List Inputs) (h : q = .sPoll ∨ q = .sSleep ∨ q = .sSelect) : (onAt q ins).Inv := by
  rcases h with rfl | rfl | rfl <;> constructor <;>
    simp [onAt, State.resetWith, small, gieAt, pcieAt, bgRunAt, depthSettledAt, pwmSettledAt,
      dutySettledAt, modeFitsAt, dlyMaxAt, boundedWaitAt, Seq.code, duty, shiftAmount, dutyValues] <;>
    exact ⟨rfl, by simp, by simp⟩

theorem offAt_inv (q : Seq) (ins : List Inputs) (h : q = .sPoll ∨ q = .sSleep ∨ q = .sDeepBg ∨ q = .sDeepPwm) :
    (offAt q ins).Inv := by
  rcases h with rfl | rfl | rfl | rfl <;> constructor <;>
    simp [offAt, State.resetWith, small, gieAt, pcieAt, bgRunAt, depthSettledAt, pwmSettledAt,
      dutySettledAt, modeFitsAt, dlyMaxAt, boundedWaitAt, Seq.code, duty, shiftAmount, dutyValues] <;>
    exact ⟨rfl, by simp, by simp⟩


theorem powered_of_inputs (s : State) (n : Nat) (h : s.inputs.all (fun i => !i.por) = true) : s.Powered n := by
  intro j _
  unfold State.inputAt
  cases hj : s.inputs[j]? with
  | none => rfl
  | some i => simpa using List.all_eq_true.mp h i (List.mem_of_getElem? hj)

/-! ## A concrete case for the hypotheses of each statement, one for each clause, at the boundary values -/

theorem witness_TimerControlsDriveBgRun : (pre .sBootBg true false).seq = .sBootBg ∧ p8.seq = .sDeepBg ∧
    p28.seq = .sWakeBg ∧ p28.pstate = .deepest ∧ p27.pstate = .idle := by decide

theorem witness_SelftestOnForcesLed : q1.seq = .sSelftestOn := by decide

theorem witness_SelftestWaitCountsDown :
    (1 < ({ q2 with dly := 2 } : State).dly ∧ q2.seq = .sSelftestWt) ∧ (q3.dly ≤ 1 ∧ q3.seq = .sSelftestWt) := by decide

theorem witness_SelftestWaitCountsDown_load :
    boundedWaitAt q3.seq = true ∧ q3.dly = 1 ∧ 1 ≤ q3.dly ∧ q3.Powered 1 ∧ boundedWaitAt b3.seq = true ∧
    b3.Powered b3.dly ∧ boundedWaitAt p19.seq = true ∧ p19.Powered p19.dly :=
  ⟨by decide, by decide, by decide, powered_of_inputs _ _ (by decide), by decide, powered_of_inputs _ _ (by decide),
   by decide, powered_of_inputs _ _ (by decide)⟩

theorem witness_PollTakesFirstSample :
    (b7.btn = false ∧ b7.seq = .sPoll) ∧ (b1.btn = true ∧ b1.seq = .sPoll) := by decide

theorem witness_DebounceTakesSecondSample :
    (1 < ({ b3 with dly := 2 } : State).dly ∧ b3.seq = .sDebounce) ∧ (b5.dly ≤ 1 ∧ b5.btn = false) ∧
    (({ b3 with dly := 0 } : State).dly ≤ 1 ∧ b3.btn = true) := by decide

theorem witness_AdvanceStepsMode : m5.pressed = true ∧ m6.pressed = false ∧ m5.seq = .sAdvance := by decide

theorem witness_DispatchAndSelectBranch :
    ((pre .sDispatch true false).seq = .sDispatch ∧ (pre .sDispatch true false).mode = .off) ∧
    (m8.seq = .sDispatch ∧ m8.mode ≠ .off) ∧ (p5.seq = .sSelect ∧ p5.pstate = .deepest) ∧
    (p7.seq = .sSelect ∧ p7.pstate = .idle) := by decide

theorem witness_PwmEnableStartsFreshPeriod : w1.pwmEn = false ∧ w3.pwmEn = true ∧ w3.seq = .sOnPwm := by decide

theorem witness_PwmDisableStopsCounter : w9.seq = .sOffPwm ∧ (offAt .sDeepPwm []).seq = .sDeepPwm := by decide

theorem witness_SetDutyWritesBufferOnly : w5.pwmWraps = true ∧ w7.pwmWraps = false ∧ w5.seq = .sOnDuty := by decide

theorem witness_ReqSleepRecordsDepth : (pre .sOffReq true false).seq = .sOffReq ∧ p2.seq = .sOnReq := by decide

theorem witness_ArmAndDisarmWritePcie :
    (p4.pcie = false ∧ p4.seq = .sArm) ∧ (p25.pcie = true ∧ p25.btn ≠ p25.btnPrev ∧ p25.seq = .sWakeDisarm) := by decide

theorem witness_SleepStaysOrWakes :
    (p13.gie = true ∧ p13.pstate = .idle ∧ p13.bgRun = true ∧ p13.bgTick = true ∧ p13.seq = .sSleep) ∧
    (p10.gie = true ∧ ({ p10 with pcif := true } : State).pcif = true ∧ p10.pcie = true) ∧
    (p10.wake = false ∧ p10.seq = .sSleep) := by decide

theorem witness_WakeupCountsDown :
    (1 < ({ p19 with dly := 2 } : State).dly ∧ p19.seq = .sWakeup) ∧ (p20.dly ≤ 1 ∧ p20.seq = .sWakeup) := by decide

theorem witness_CliAndSeiWriteGie : p21.seq = .sWakeCli ∧ p29.seq = .sWakeSei ∧ q4.seq = .sBootSei := by decide

theorem witness_ClrWakeFlagLosesToEdge : p22.seq = .sWakeClrf ∧ p23.seq = .sWakeClrf := by decide

theorem witness_ModeEncodingFollowsEnumeration : 5 ≤ (5 : BitVec 3).toNat ∧ 24 ≤ (24 : BitVec 5).toNat := by decide

theorem witness_DecodeEncodeAgree : decode 0x0DFF = .error (.reservedOperand 0x0D 0xFF) ∧
    decode 0x0D01 = .ok (.reqSleep .deepest) := ⟨rfl, rfl⟩

theorem witness_ReservedWordsAreRefusedByName :
    (0x00FF : OpWord).toNat / 256 = 0 ∧ 0x16 ≤ (0x1600 : OpWord).toNat / 256 ∧
    ((Uop.ofWord 0x0101).opcodeDefined = true ∧ (Uop.ofWord 0x0101).operandFits = false) ∧
    ((Uop.ofWord 0x1102).opcodeDefined = true ∧ (Uop.ofWord 0x1102).operandFits = false) := by decide

/-- A run from reset with the button held down from power-up (70_reset_and_hazards.md R305). -/
def held (n : Nat) : State := (State.resetWith small (steady false true 40) 0).sigma n

/-- A run from reset with the button released. -/
def released (n : Nat) : State := (State.resetWith small (steady true true 40) 0).sigma n

theorem witness_ReservedWordsAreRefusedByName_run : small.wf = true ∧ (held 14).seq = .sOnDuty := by decide

theorem witness_StepRunsDecodedOperation : p13.por = false ∧ decode p13.opTrace = .ok (.sleep .idle) := ⟨rfl, rfl⟩

theorem witness_MachineRefinesListing : w9.por = false ∧ w9.op = .pwmDisable ∧ w5.por = false := by decide

theorem witness_SuccessorTable : p7.por = false ∧ p5.por = false := by decide

theorem witness_WriteOwnership :
    (exec .poll b7 = .next b7.next ∧ ownedBy .mode .poll = false) ∧
    (exec (.setDuty 125) w5 = .next w5.next ∧ ownedBy .pwmPre (.setDuty 125) = false ∧
      ownedBy .pwmCnt (.setDuty 125) = false ∧ ownedBy .pwmCmp (.setDuty 125) = false ∧
      ownedBy .pcif (.setDuty 125) = false ∧ ownedBy .seq (.setDuty 125) = false) :=
  ⟨⟨rfl, rfl⟩, rfl, rfl, rfl, rfl, rfl, rfl⟩

theorem witness_PwmIsolation : exec .pwmDisable w9 = .next w9.next ∧ exec .pwmEnable w1 = .next w1.next ∧
    exec (.setDuty 125) w5 = .next w5.next ∧ exec .poll b7 = .next b7.next := ⟨rfl, rfl, rfl, rfl⟩

theorem witness_PorForcesResetState :
    ({ p13 with inputs := [{ por := true, btn := false, bgTick := true }] } : State).por = true := by decide

/-- The allowed parameters that statements over all parameters speak of: the source configuration, the scaled one, and
both ends of PWM_TOP. -/
theorem witness_parameters : ({} : Params).wf = true ∧ small.wf = true ∧ ({ pwmTop := 1 } : Params).wf = true ∧
    ({ pwmTop := 255, tWakeIdle := 7, tWakeDeep := 7 } : Params).wf = true := by decide

theorem witness_StepKeepsInvariant : (onAt .sSleep []).Inv ∧ step (onAt .sSleep []) = .next (onAt .sSleep []).next :=
  ⟨onAt_inv _ _ (by simp), rfl⟩

theorem witness_ReachableStateFacts :
    ((released 16).seq = .sSleep ∧ (released 16).pstate = .deepest ∧ (released 16).pwmEn = false) ∧
    ((held 18).seq = .sSleep ∧ (held 18).pstate = .idle) ∧ (released 2).ledForce = true := by decide

theorem witness_DerivedConstants : small.wf = true ∧ max (max small.startupTicks small.debounceTicks) small.tWakeDeep < 2 ^ 3 := by
  decide

theorem witness_DirectiveTable :
    ((released 16).seq = .sSleep ∧ (released 16).mode = .off) ∧ ((held 18).seq = .sSleep ∧ (held 18).mode ≠ .off) := by
  decide

theorem witness_ModeChangesOnlyOnConfirmedPress :
    m5.por = false ∧ m5.next.mode ≠ m5.mode ∧ (held 6).seq.code.toNat < 4 := by decide

theorem witness_FivePressesReturnToOff :
    (offAt .sPoll (steady false true 90)).Inv ∧ (offAt .sPoll (steady false true 90)).Powered 84 ∧
    (offAt .sPoll (steady false true 90)).mode = .off ∧ (offAt .sPoll (steady false true 90)).confirmed 84 = 5 ∧
    ((offAt .sPoll (steady false true 90)).sigma 84).seq = .sSleep :=
  ⟨offAt_inv _ _ (by simp), powered_of_inputs _ _ (by decide), rfl, by decide, by decide⟩

theorem witness_PollButtonContract :
    ((offAt .sPoll (steady true false 1)).seq = .sPoll ∧ (offAt .sPoll (steady true false 1)).por = false ∧
      (offAt .sPoll (steady true false 1)).btn = true) ∧
    (small.wf = true ∧ (offAt .sPoll (steady false false 4)).btn = false) ∧
    (b5.por = false ∧ b5.pressed = false ∧ b5.next.pressed = true) := by decide

theorem witness_PollButtonContract_powered :
    (offAt .sPoll (steady false false 4)).Powered (small.debounceTicks + 1) := powered_of_inputs _ _ (by decide)

theorem witness_PinChangeDetector :
    (p23.por = false ∧ p23.pcie = true ∧ p23.btn ≠ p23.btnPrev) ∧ (p22.por = false ∧ p22.op = .clrWakeFlag) ∧
    p22.seq ≠ .sSleep := by decide

theorem witness_CompareLatchesAtBoundaryOnly :
    (w3.por = false ∧ w3.pwmWraps = true) ∧ (w1.por = false ∧ w1.op = .pwmEnable ∧ w1.pwmEn = false) ∧
    (w9.por = false ∧ w9.op = .pwmDisable) := by decide

theorem witness_CounterUpdate :
    (w3.por = false ∧ w3.op ≠ .pwmDisable ∧ w3.pwmEn = true ∧ w3.pwmPre = w3.params.pwmDiv - 1) ∧
    (p10.por = false ∧ p10.op ≠ .pwmDisable ∧ p10.pwmEn = false) ∧
    ((onAt .sSleep (steady true false 1)).pwmEn = true ∧ (onAt .sSleep (steady true false 1)).pwmPre ≠ small.pwmDiv - 1) := by
  decide

theorem witness_CounterUpdate_run :
    (onAt .sSleep (steady true false 12)).InRange ∧ (onAt .sSleep (steady true false 12)).pwmEn = true ∧
    (onAt .sSleep (steady true false 12)).pwmCnt = 0 ∧ (onAt .sSleep (steady true false 12)).pwmPre = 0 ∧
    (onAt .sSleep (steady true false 12)).Powered 12 ∧
    (∀ j, j < 12 → ((onAt .sSleep (steady true false 12)).sigma j).op ≠ .pwmDisable) :=
  ⟨(onAt_inv _ _ (by simp)).inRange, rfl, rfl, rfl, powered_of_inputs _ _ (by decide), by decide⟩

theorem witness_CounterUpdate_deepest : (offAt .sSleep []).Inv ∧ (offAt .sSleep []).sleepO = 0b10 :=
  ⟨offAt_inv _ _ (by simp), rfl⟩

theorem witness_DutyFraction :
    (onAt .sSleep (steady true false 6)).InRange ∧ (onAt .sSleep (steady true false 6)).Powered (3 * 2) ∧
    (∀ j, j < 3 * 2 → ((onAt .sSleep (steady true false 6)).sigma j).op ≠ .pwmDisable ∧
      ((onAt .sSleep (steady true false 6)).sigma j).ledForce = false) :=
  ⟨(onAt_inv _ _ (by simp)).inRange, powered_of_inputs _ _ (by decide), by decide⟩

theorem witness_DirectiveIsIdempotent_driving :
    (onAt .sPoll (steady true true 30)).Inv ∧ (onAt .sPoll (steady true true 30)).mode ≠ .off ∧
    (onAt .sPoll (steady true true 30)).Powered 30 ∧
    (∀ j, j ≤ 30 → ((onAt .sPoll (steady true true 30)).sigma j).mode = (onAt .sPoll (steady true true 30)).mode) :=
  ⟨onAt_inv _ _ (by simp), by decide, powered_of_inputs _ _ (by decide), by decide⟩

theorem witness_DirectiveIsIdempotent_off :
    (offAt .sPoll (steady true true 12)).Inv ∧ (offAt .sPoll (steady true true 12)).Powered 12 ∧
    (∀ j, j ≤ 12 → ((offAt .sPoll (steady true true 12)).sigma j).mode = .off) :=
  ⟨offAt_inv _ _ (by simp), powered_of_inputs _ _ (by decide), by decide⟩

/-- An enabling PWM_ENABLE is the next operation. -/
def enabling : State := { onAt .sOnPwm (steady true false 8) with pwmEn := false, pcie := false, pwmCmpBuf := 125 }

theorem witness_StaleFirstPeriod :
    enabling.InRange ∧ enabling.seq = .sOnPwm ∧ enabling.pwmEn = false ∧ enabling.mode ≠ .off ∧
    enabling.Powered (3 * 2 + 1) ∧ (∀ j, j ≤ 3 * 2 + 1 → (enabling.sigma j).mode = enabling.mode) :=
  ⟨⟨rfl, by decide, by decide⟩, rfl, rfl, by decide, powered_of_inputs _ _ (by decide), by decide⟩

theorem witness_PowerPorts :
    (m8.seq ≠ .sSleep ∧ m8.seq ≠ .sWakeup) ∧ (p13.seq = .sSleep ∧ p13.pstate = .idle) ∧
    (p19.seq = .sWakeup ∧ p19.pstate = .deepest) ∧ (offAt .sSleep []).periphClkEn = false := by decide

theorem witness_PowerPorts_inv : (offAt .sSleep []).Inv := offAt_inv _ _ (by simp)

theorem witness_WakeProtocolOrder :
    (p4.por = false ∧ 13 ≤ p4.seq.code.toNat) ∧ (p29.por = false ∧ 13 ≤ p29.seq.code.toNat) ∧
    (p2.por = false ∧ p2.seq.code.toNat < 13 ∧ 13 ≤ p2.next.seq.code.toNat) := by decide

theorem witness_WakeReachesPoll :
    (onAt .sSleep (steady true true 7)).Inv ∧ (onAt .sSleep (steady true true 7)).wake = true ∧
    (onAt .sSleep (steady true true 7)).Powered (small.wakeLatency .idle + 6) :=
  ⟨onAt_inv _ _ (by simp), rfl, powered_of_inputs _ _ (by decide)⟩

theorem witness_ArmedEdgeEndsSleep :
    (onAt .sSelect (steady false false 5)).Inv ∧ (offAt .sDeepBg (steady false false 5)).Inv ∧
    (offAt .sDeepPwm (steady false false 5)).Inv ∧ (onAt .sSleep (steady false false 5)).Inv ∧
    (onAt .sSelect (steady false false 5)).Powered 5 ∧
    (onAt .sSelect (steady false false 5)).btn ≠ (onAt .sSelect (steady false false 5)).btnPrev :=
  ⟨onAt_inv _ _ (by simp), offAt_inv _ _ (by simp), offAt_inv _ _ (by simp), onAt_inv _ _ (by simp),
   powered_of_inputs _ _ (by decide), by decide⟩

theorem witness_SleepWithoutEventGoesOn :
    (onAt .sSleep (steady true false 4)).Inv ∧ (onAt .sSleep (steady true false 4)).pcif = false ∧
    (∀ j, j < 4 → ((onAt .sSleep (steady true false 4)).inputAt j).por = false ∧
      ((onAt .sSleep (steady true false 4)).inputAt j).btn = true ∧
      ((onAt .sSleep (steady true false 4)).inputAt j).bgTick = false) ∧
    (offAt .sSleep (steady true true 4)).Inv ∧
    (∀ j, j < 4 → ((offAt .sSleep (steady true true 4)).inputAt j).por = false ∧
      ((offAt .sSleep (steady true true 4)).inputAt j).btn = true) :=
  ⟨onAt_inv _ _ (by simp), rfl, by decide, offAt_inv _ _ (by simp), by decide⟩

theorem witness_GlobalMasking : m8.gie = false := by decide

theorem witness_BgTickIsIgnoredOutsideIdleSleep :
    m8.seq ≠ .sSleep ∧ p10.pstate = .deepest ∧ ({ p13 with bgRun := false } : State).bgRun = false ∧
    ({ p13 with gie := false } : State).gie = false := by decide

theorem witness_EachIterationSleepsOnce :
    (onAt .sPoll (steady true true 15)).Powered 15 ∧ ((onAt .sPoll (steady true true 15)).sigma 15).seq = .sPoll ∧
    (∀ j, 0 < j → j < 15 → ((onAt .sPoll (steady true true 15)).sigma j).seq ≠ .sPoll) :=
  ⟨powered_of_inputs _ _ (by decide), by decide, fun j a b =>
    (by decide : ∀ j, j < 15 → 0 < j → ((onAt .sPoll (steady true true 15)).sigma j).seq ≠ .sPoll) j b a⟩

/-- One driving iteration: one tick of sleep, ended by the background tick. -/
theorem witness_IterationLength_driving :
    ((onAt .sPoll (steady true true 15)).sigma 2).mode ≠ .off ∧ (onAt .sPoll (steady true true 15)).Powered (8 + 1 + 1 + 5) ∧
    ((onAt .sPoll (steady true true 15)).sigma 8).wake = true :=
  ⟨by decide, powered_of_inputs _ _ (by decide), by decide⟩

/-- One Off iteration: two ticks of sleep, ended by a button edge at its first. -/
def offIteration : State := offAt .sPoll (steady true false 9 ++ steady false false 10)

theorem witness_IterationLength_off :
    (offIteration.sigma 2).mode = .off ∧ offIteration.Powered (9 + 2 + 2 + 5) ∧ (offIteration.sigma 9).wake = false ∧
    (offIteration.sigma 10).wake = true :=
  ⟨by decide, powered_of_inputs _ _ (by decide), by decide, by decide⟩

theorem witness_BootOrder :
    ∀ j, j < 40 → ((State.resetWith small (steady true true 40) 0).inputAt j).por = false ∧
      ((State.resetWith small (steady true true 40) 0).inputAt j).btn = true := by decide

theorem witness_SleepIsReachedInBoundedTime :
    (onAt .sPoll []).Inv ∧ (onAt .sPoll []).Powered (small.startupTicks + small.debounceTicks + small.tWakeDeep + 20) :=
  ⟨onAt_inv _ _ (by simp), powered_of_inputs _ _ (by decide)⟩

theorem witness_PressInDeepestSleepTurnsOn :
    (offAt .sSleep (steady false false 20)).Inv ∧ (offAt .sSleep (steady false false 20)).pstate = .deepest ∧
    (offAt .sSleep (steady false false 20)).pcif = false ∧
    (offAt .sSleep (steady false false 20)).btn ≠ (offAt .sSleep (steady false false 20)).btnPrev ∧
    (offAt .sSleep (steady false false 20)).Powered (small.tWakeDeep + 7 + small.debounceTicks + 4) ∧
    ((offAt .sSleep (steady false false 20)).inputAt 9).btn = false ∧
    ((offAt .sSleep (steady false false 20)).inputAt 12).btn = false ∧
    ((offAt .sSleep (steady false false 12 ++ steady true false 8)).inputAt 12).btn = true :=
  ⟨offAt_inv _ _ (by simp), rfl, rfl, by decide, powered_of_inputs _ _ (by decide), by decide, by decide, by decide⟩

end Sys2Proof.Tests
end

section
/-! PROOF. The derived constants of 00_scope.md R8: the two tick counts, and the width of DLY as a least width. -/

namespace Sys2Proof

/-- The allowed parameter values (R6 to R8), as propositions. -/
theorem Params.wf_iff (p : Params) : p.wf = true ↔
    1 ≤ p.debounceMs ∧ 1 ≤ p.startupMs ∧ 1 ≤ p.pwmTop ∧ p.pwmTop ≤ 255 ∧ 1 ≤ p.ticksPerMs ∧ 1 ≤ p.pwmDiv ∧
    1 ≤ p.tWakeIdle ∧ p.tWakeIdle ≤ p.tWakeDeep := by
  simp only [Params.wf, Bool.and_eq_true, decide_eq_true_eq, and_assoc]

theorem Params.one_le_debounceTicks {p : Params} (h : p.wf = true) : 1 ≤ p.debounceTicks := by
  obtain ⟨hd, -, -, -, ht, -⟩ := p.wf_iff.mp h
  exact Nat.mul_pos hd ht

theorem Params.one_le_startupTicks {p : Params} (h : p.wf = true) : 1 ≤ p.startupTicks := by
  obtain ⟨-, hs, -, -, ht, -⟩ := p.wf_iff.mp h
  exact Nat.mul_pos hs ht

/-- A width is at least DLY_W exactly when its power of two exceeds every value loaded into DLY. Both halves of "the
least width" (R8) are instances: the bound at `w = DLY_W`, and minimality. -/
theorem Params.dlyWidth_le_iff (p : Params) (w : Nat) :
    p.dlyWidth ≤ w ↔ max (max p.startupTicks p.debounceTicks) p.tWakeDeep < 2 ^ w := by
  unfold Params.dlyWidth
  generalize max (max p.startupTicks p.debounceTicks) p.tWakeDeep = m
  by_cases hm : m = 0
  · simp [hm]
  · simp only [if_neg hm, Nat.succ_le_iff, Nat.log2_lt hm]

end Sys2Proof

/-- Settles O35: the products are the definitions, positivity is that of the factors, and DLY_W is both sufficient and
least by `Params.dlyWidth_le_iff`. -/
theorem derivedConstants : Obligations.DerivedConstants := by
  intro p hp
  have hfits := (p.dlyWidth_le_iff p.dlyWidth).mp le_rfl
  have hleast := fun w => (p.dlyWidth_le_iff w).mpr
  exact ⟨rfl, rfl, p.one_le_debounceTicks hp, p.one_le_startupTicks hp, rfl, hfits, hleast⟩

end

section
/-! PROOF. One clock edge, register by register: what each operation writes, and from that one equation for each
register after a tick, in terms of the sequencer state (30_encoding.md R84, 44_sequencer.md R227). -/

namespace Sys2Proof.Machine

/-- What the operation `i` of a tick that began in `s` writes over the state `t` after the free-running updates. -/
def State.writes (s : State) (i : Instr) (t : State) : State :=
  match i with
  | .bgStart => { t with bgRun := true }
  | .bgStop => { t with bgRun := false }
  | .bgRestart => { t with bgRun := if s.pstate = .deepest then true else t.bgRun }
  | .selftestOn => { t with ledForce := true, dly := s.params.startupTicks }
  | .selftestWait => { t with dly := s.countdownDly, ledForce := if s.countdownDone then false else t.ledForce }
  | .poll => { t with btnRaw := s.btn, pressed := false, dly := if s.btn then s.dly else s.params.debounceTicks }
  | .debounce =>
    { t with dly := s.countdownDly, btnRaw := if s.countdownDone then s.btn else t.btnRaw,
             pressed := if s.countdownDone then !s.btn else t.pressed }
  | .advance => { t with mode := if s.pressed then nextMode s.mode else s.mode }
  | .pwmEnable =>
    { t with pwmEn := if s.pwmEn then t.pwmEn else true, pwmPre := if s.pwmEn then t.pwmPre else 0,
             pwmCnt := if s.pwmEn then t.pwmCnt else 0, pwmCmp := if s.pwmEn then t.pwmCmp else s.pwmCmpBuf }
  | .pwmDisable => { t with pwmEn := false, pwmPre := 0, pwmCnt := 0, pwmCmp := s.pwmCmp }
  | .setDuty v => { t with pwmCmpBuf := v }
  | .reqSleep d => { t with pstate := d }
  | .armWake => { t with pcie := true }
  | .sleep _ => { t with dly := if s.wake then s.params.wakeLatency s.pstate else t.dly }
  | .wakeup _ => { t with dly := s.countdownDly }
  | .cli => { t with gie := false }
  | .clrWakeFlag => { t with pcif := false }
  | .disarmWake => { t with pcie := false }
  | .sei => { t with gie := true }
  | .dispatch => t
  | .select => t

theorem outcome_tick_congr {s : State} {sig : Signals} {w w' : State → State} (h : ∀ t, w t = w' t) :
    (.next (s.tick sig w) : Host.Outcome State Fault Refusal) = .next (s.tick sig w') := by
  rw [funext h]

/-- Every operation is a tick with its writes. -/
theorem exec_eq_tick (i : Instr) (s : State) : exec i s = .next (s.tick (s.signals i) (s.writes i)) := by
  cases i
  case bgRestart =>
    refine outcome_tick_congr fun t => ?_
    simp only [State.writes]
    cases s.pstate <;> rfl
  case selftestWait =>
    refine outcome_tick_congr fun t => ?_
    simp only [State.writes]
    cases s.countdownDone <;> rfl
  case debounce =>
    refine outcome_tick_congr fun t => ?_
    simp only [State.writes]
    cases s.countdownDone <;> rfl
  case pwmEnable =>
    refine outcome_tick_congr fun t => ?_
    simp only [State.writes]
    cases s.pwmEn <;> rfl
  case sleep d =>
    refine outcome_tick_congr fun t => ?_
    simp only [State.writes, State.wakeEntry]
    cases s.wake <;> rfl
  all_goals rfl

theorem next_eq_tick (s : State) (hp : s.por = false) : s.next = s.tick (s.signals s.op) (s.writes s.op) :=
  next_of_exec _ _ hp (exec_eq_tick _ _)

theorem next_fullbright (s : State) (hp : s.por = false) : s.next.fullbright = s.fullbright := by
  rw [next_eq_tick s hp, tick_fullbright]
  cases s.op <;> simp [State.writes]

theorem next_mode (s : State) (hp : s.por = false) :
    s.next.mode = if s.seq = .sAdvance ∧ s.pressed = true then nextMode s.mode else s.mode := by
  rw [next_eq_tick s hp, tick_mode, State.op]
  cases s.seq <;> simp [State.writes]

theorem next_gie (s : State) (hp : s.por = false) :
    s.next.gie =
      if s.seq = .sWakeCli then false else if s.seq = .sBootSei ∨ s.seq = .sWakeSei then true else s.gie := by
  rw [next_eq_tick s hp, tick_gie, State.op]
  cases s.seq <;> simp [State.writes]

theorem next_pcie (s : State) (hp : s.por = false) :
    s.next.pcie = if s.seq = .sArm then true else if s.seq = .sWakeDisarm then false else s.pcie := by
  rw [next_eq_tick s hp, tick_pcie, State.op]
  cases s.seq <;> simp [State.writes]

theorem next_pstate (s : State) (hp : s.por = false) :
    s.next.pstate = if s.seq = .sOffReq then .deepest else if s.seq = .sOnReq then .idle else s.pstate := by
  rw [next_eq_tick s hp, tick_pstate, State.op]
  cases s.seq <;> simp [State.writes]

theorem next_bgRun (s : State) (hp : s.por = false) :
    s.next.bgRun =
      if s.seq = .sBootBg then true else if s.seq = .sDeepBg then false
      else if s.seq = .sWakeBg ∧ s.pstate = .deepest then true else s.bgRun := by
  rw [next_eq_tick s hp, tick_bgRun, State.op]
  cases s.seq <;> simp [State.writes]

theorem next_ledForce (s : State) (hp : s.por = false) :
    s.next.ledForce =
      if s.seq = .sSelftestOn then true else if s.seq = .sSelftestWt ∧ s.countdownDone = true then false
      else s.ledForce := by
  rw [next_eq_tick s hp, tick_ledForce, State.op]
  cases s.seq <;> simp [State.writes]

theorem next_dly (s : State) (hp : s.por = false) :
    s.next.dly =
      if boundedWaitAt s.seq then s.countdownDly
      else if s.seq = .sSelftestOn then s.params.startupTicks
      else if s.seq = .sPoll ∧ s.btn = false then s.params.debounceTicks
      else if s.seq = .sSleep ∧ s.wake = true then s.params.wakeLatency s.pstate
      else s.dly := by
  rw [next_eq_tick s hp, tick_dly, State.op]
  cases s.seq
  case sPoll => cases hb : s.btn <;> simp [State.writes, boundedWaitAt, hb]
  all_goals simp [State.writes, boundedWaitAt]

theorem next_pwmEn (s : State) (hp : s.por = false) :
    s.next.pwmEn =
      if s.seq = .sOnPwm then true else if s.seq = .sOffPwm ∨ s.seq = .sDeepPwm then false else s.pwmEn := by
  rw [next_eq_tick s hp, tick_pwmEn, State.op]
  cases s.seq <;> simp [State.writes]

theorem next_pwmCmpBuf (s : State) (hp : s.por = false) :
    s.next.pwmCmpBuf = if s.seq = .sOnDuty then duty s.mode s.fullbright else s.pwmCmpBuf := by
  rw [next_eq_tick s hp, tick_pwmCmpBuf, State.op]
  cases s.seq <;> simp [State.writes]

/-- The PWM counter and the active compare value after a tick: PWM_DISABLE stops them, PWM_ENABLE on a stopped PWM
starts a fresh period, and in every other tick they run free (42_pwm.md R151, R152, R154). -/
theorem next_pwm_cases (s : State) (hp : s.por = false) :
    (s.next.pwmEn = false ∧ s.next.pwmPre = 0 ∧ s.next.pwmCnt = 0 ∧ s.next.pwmCmp = s.pwmCmp) ∨
    (s.next.pwmEn = true ∧ s.next.pwmPre = 0 ∧ s.next.pwmCnt = 0 ∧ s.next.pwmCmp = s.pwmCmpBuf) ∨
    (s.next.pwmEn = s.pwmEn ∧ PwmRan s s.next) := by
  rw [next_eq_tick s hp]
  cases s.op
  case pwmDisable => exact .inl ⟨rfl, rfl, rfl, rfl⟩
  case pwmEnable =>
    cases hen : s.pwmEn
    · exact .inr (.inl (by simp [State.writes, hen]))
    · exact .inr (.inr ⟨by simp [State.writes, hen], by simp [State.writes, hen], by simp [State.writes, hen],
        by simp [State.writes, hen]⟩)
  all_goals
    exact .inr (.inr ⟨by simp [State.writes], by simp [State.writes], by simp [State.writes], by simp [State.writes]⟩)

/-! The condition signals where the successor table consults them (44_sequencer.md R220). -/

theorem boundedWaitAt_iff {q : Seq} : boundedWaitAt q = true ↔ q = .sSelftestWt ∨ q = .sDebounce ∨ q = .sWakeup := by
  simp [boundedWaitAt, or_assoc]

theorem signals_of_boundedWait {s : State} (hq : boundedWaitAt s.seq = true) :
    s.signals s.op = { done := s.countdownDone } := by
  rcases boundedWaitAt_iff.mp hq with hq | hq | hq <;> simp [State.op, hq, State.signals]

theorem signals_of_poll {s : State} (hq : s.seq = .sPoll) : s.signals s.op = { taken := !s.btn } := by
  simp [State.op, hq, State.signals, State.pollTaken]

theorem signals_of_dispatch {s : State} (hq : s.seq = .sDispatch) : s.signals s.op = { taken := s.mode == .off } := by
  simp [State.op, hq, State.signals, State.dispatchTaken]

theorem signals_of_select {s : State} (hq : s.seq = .sSelect) : s.signals s.op = { taken := s.pstate == .deepest } := by
  simp [State.op, hq, State.signals, State.selectTaken]

theorem signals_of_sleep {s : State} (hq : s.seq = .sSleep) : s.signals s.op = { done := s.wake } := by
  simp [State.op, hq, State.signals]

end Sys2Proof.Machine

end

section
/-! PROOF. The inductive invariant `State.Inv`: it holds at reset and every clock edge keeps it, one lemma for each of
its clauses; so it holds along every run, and with it the facts of 10_state.md R45. -/

namespace Sys2Proof.Machine

/-! How the tables of the invariant follow the successor table (44_sequencer.md R223). -/

theorem gieAt_successor (q : Seq) (sig : Signals) :
    gieAt (successor q sig) =
      if q = .sWakeCli then false else if q = .sBootSei ∨ q = .sWakeSei then true else gieAt q := by
  obtain ⟨done, taken⟩ := sig
  cases q <;> cases done <;> cases taken <;> rfl

theorem pcieAt_successor (q : Seq) (sig : Signals) :
    pcieAt (successor q sig) = if q = .sArm then true else if q = .sWakeDisarm then false else pcieAt q := by
  obtain ⟨done, taken⟩ := sig
  cases q <;> cases done <;> cases taken <;> rfl

theorem successor_beq_selftestWt (q : Seq) (sig : Signals) :
    (successor q sig == .sSelftestWt) =
      if q = .sSelftestOn then true else if q = .sSelftestWt ∧ sig.done = true then false else q == .sSelftestWt := by
  obtain ⟨done, taken⟩ := sig
  cases q <;> cases done <;> cases taken <;> rfl

/-- The timer runs as the table says when SELECT reads the depth and the teardown path is taken at deepest only. -/
theorem bgRunAt_successor {q : Seq} {sig : Signals} {d : Depth}
    (hselect : q = .sSelect → (sig.taken = true ↔ d = .deepest)) (hdeep : q = .sDeepPwm → d = .deepest) :
    bgRunAt (successor q sig) d =
      if q = .sBootBg then true else if q = .sDeepBg then false
      else if q = .sWakeBg ∧ d = .deepest then true else bgRunAt q d := by
  obtain ⟨done, taken⟩ := sig
  revert hselect hdeep
  cases q <;> cases done <;> cases taken <;> cases d <;> decide

theorem of_depthSettledAt_successor {q : Seq} {sig : Signals} (h : depthSettledAt (successor q sig) = true) :
    q = .sOffReq ∨ q = .sOnReq ∨
      (q ≠ .sOffReq ∧ q ≠ .sOnReq ∧ q ≠ .sAdvance ∧ depthSettledAt q = true) := by
  obtain ⟨done, taken⟩ := sig
  revert h
  cases q <;> cases done <;> cases taken <;> decide

theorem of_pwmSettledAt_successor {q : Seq} {sig : Signals} (h : pwmSettledAt (successor q sig) = true) :
    q = .sOnPwm ∨ q = .sOffPwm ∨ q = .sDeepPwm ∨
      (q ≠ .sOnPwm ∧ q ≠ .sOffPwm ∧ q ≠ .sDeepPwm ∧ q ≠ .sAdvance ∧ pwmSettledAt q = true) := by
  obtain ⟨done, taken⟩ := sig
  revert h
  cases q <;> cases done <;> cases taken <;> decide

theorem of_dutySettledAt_successor {q : Seq} {sig : Signals} (h : dutySettledAt (successor q sig) = true) :
    q = .sOnDuty ∨ q = .sBootSei ∨ q = .sOffReq ∨
      (q ≠ .sOnDuty ∧ q ≠ .sAdvance ∧ dutySettledAt q = true) := by
  obtain ⟨done, taken⟩ := sig
  revert h
  cases q <;> cases done <;> cases taken <;> decide

/-- A mode goes on to fit when DISPATCH reads it and SELECT takes the teardown path in Off only. -/
theorem modeFitsAt_successor {q : Seq} {sig : Signals} {m : Mode} (hfits : modeFitsAt q m = true)
    (hdispatch : q = .sDispatch → (sig.taken = true ↔ m = .off))
    (hselect : q = .sSelect → sig.taken = true → m = .off) : modeFitsAt (successor q sig) m = true := by
  obtain ⟨done, taken⟩ := sig
  revert hfits hdispatch hselect
  cases q <;> cases done <;> cases taken <;> cases m <;> decide

/-- A bounded wait is entered from the three states that load DLY. -/
theorem boundedWaitAt_successor {q : Seq} (sig : Signals) (hq : boundedWaitAt q = false) :
    boundedWaitAt (successor q sig) = true ↔
      q = .sSelftestOn ∨ (q = .sPoll ∧ sig.taken = true) ∨ (q = .sSleep ∧ sig.done = true) := by
  obtain ⟨done, taken⟩ := sig
  revert hq
  cases q <;> cases done <;> cases taken <;> decide

theorem dlyMaxAt_eq_zero (p : Params) (d : Depth) {q : Seq} (hq : boundedWaitAt q = false) : dlyMaxAt p d q = 0 := by
  cases q
  case sSelftestWt => exact absurd hq (by decide)
  case sDebounce => exact absurd hq (by decide)
  case sWakeup => exact absurd hq (by decide)
  all_goals rfl

/-- The duty of a driving mode is one of the values that a compare register can hold. -/
theorem duty_mem_dutyValues {m : Mode} (fb : Byte) (hm : m ≠ .off) : duty m fb ∈ dutyValues fb := by
  cases m <;> simp_all [duty, shiftAmount, dutyValues]

/-- Every load of DLY is at least 1 (00_scope.md R7, R8). -/
theorem one_le_dlyMaxAt {p : Params} (hp : p.wf = true) (d : Depth) {q : Seq} (hq : boundedWaitAt q = true) :
    1 ≤ dlyMaxAt p d q := by
  obtain ⟨-, -, -, -, -, -, hidle, hdeep⟩ := p.wf_iff.mp hp
  cases q
  case sSelftestWt => exact p.one_le_startupTicks hp
  case sDebounce => exact p.one_le_debounceTicks hp
  case sWakeup =>
    cases d
    · exact hidle
    · exact hidle.trans hdeep
  all_goals exact absurd hq (by decide)

/-! What a mode must be where the invariant's table leaves no choice. -/

section ModeAt

variable {s : State} (h : s.Inv)
include h

theorem State.Inv.mode_eq_off (hq : s.seq = .sBootSei ∨ s.seq = .sOffPwm ∨ s.seq = .sOffReq ∨ s.seq = .sDeepPwm) :
    s.mode = .off := by
  have hmode := h.mode
  rcases hq with hq | hq | hq | hq <;> simpa [hq, modeFitsAt] using hmode

theorem State.Inv.mode_ne_off (hq : s.seq = .sOnPwm ∨ s.seq = .sOnDuty ∨ s.seq = .sOnReq) : s.mode ≠ .off := by
  have hmode := h.mode
  rcases hq with hq | hq | hq <;> simpa [hq, modeFitsAt] using hmode

/-- On the teardown path the depth is deepest, because the mode is Off. -/
theorem State.Inv.deepest_of_deepPwm (hq : s.seq = .sDeepPwm) : s.pstate = .deepest :=
  (h.depth (by rw [hq]; decide)).mpr (h.mode_eq_off (by simp [hq]))

end ModeAt

/-! Reset: the block starts with every unit stopped. -/

theorem resetWith_inv (p : Params) (ins : List Inputs) (e : Nat) (hp : p.wf = true) :
    (State.resetWith p ins e).Inv where
  inRange := by
    obtain ⟨-, -, htop, -, -, hdiv, -⟩ := p.wf_iff.mp hp
    exact ⟨hp, htop, hdiv⟩
  stopped _ := ⟨rfl, rfl⟩
  fullbright := rfl
  led := rfl
  gie := rfl
  pcie := rfl
  bgRun := rfl
  depth hd := absurd hd (by simp [State.resetWith, depthSettledAt, Seq.code])
  pwm _ := by simp [State.resetWith]
  mode := rfl
  duty hd := absurd hd (by simp [State.resetWith, dutySettledAt, depthSettledAt, Seq.code])
  dlyMax := Nat.le_refl 0
  dlyMin hw := absurd hw (by simp [State.resetWith, boundedWaitAt])
  buf := by simp [State.resetWith, dutyValues]
  cmp := by simp [State.resetWith, dutyValues]

/-! A tick: one lemma for each clause of the invariant, or for a few that go together. -/

section Tick

variable {s : State} (h : s.Inv) (hp : s.por = false)
include h hp

theorem State.Inv.inRange_next : s.next.InRange := by
  obtain ⟨hwf, -, -⟩ := h.inRange
  have hparams := (next_bookkeeping s).1
  obtain ⟨-, -, htop, -, -, hdiv, -⟩ := s.params.wf_iff.mp hwf
  refine ⟨by rwa [hparams], ?_, ?_⟩ <;> rw [hparams] <;>
    rcases next_pwm_cases s hp with ⟨-, hpre, hcnt, -⟩ | ⟨-, hpre, hcnt, -⟩ | ⟨-, hran⟩
  · rw [hcnt]; exact htop
  · rw [hcnt]; exact htop
  · rw [hran.cnt]; exact (pwmRun_inRange s h.inRange).1
  · omega
  · omega
  · rw [hran.pre]; exact (pwmRun_inRange s h.inRange).2

theorem State.Inv.stopped_next (hen : s.next.pwmEn = false) : s.next.pwmCnt = 0 ∧ s.next.pwmPre = 0 := by
  rcases next_pwm_cases s hp with ⟨-, hpre, hcnt, -⟩ | ⟨-, hpre, hcnt, -⟩ | ⟨hsame, hran⟩
  · exact ⟨hcnt, hpre⟩
  · exact ⟨hcnt, hpre⟩
  · have hstop : s.pwmEn = false := hsame ▸ hen
    have hidle : s.pwmRun = s := by simp [State.pwmRun, hstop]
    rw [hran.cnt, hran.pre, hidle]
    exact h.stopped hstop

theorem State.Inv.led_next : s.next.ledForce = (s.next.seq == .sSelftestWt) := by
  rw [next_ledForce s hp, next_seq s hp, successor_beq_selftestWt, h.led]
  by_cases hq : s.seq = .sSelftestWt
  · rw [signals_of_boundedWait (by rw [hq]; rfl)]
  · simp [hq]

theorem State.Inv.gie_next : s.next.gie = gieAt s.next.seq := by
  rw [next_gie s hp, next_seq s hp, gieAt_successor, h.gie]

theorem State.Inv.pcie_next : s.next.pcie = pcieAt s.next.seq := by
  rw [next_pcie s hp, next_seq s hp, pcieAt_successor, h.pcie]

theorem State.Inv.bgRun_next : s.next.bgRun = bgRunAt s.next.seq s.next.pstate := by
  by_cases hreq : s.seq = .sOffReq ∨ s.seq = .sOnReq
  · have hrun := h.bgRun
    rw [next_bgRun s hp, next_seq s hp]
    rcases hreq with hq | hq <;> simpa [hq, successor, bgRunAt] using hrun
  · obtain ⟨hoff, hon⟩ := not_or.mp hreq
    have hselect : s.seq = .sSelect → ((s.signals s.op).taken = true ↔ s.pstate = .deepest) := by
      intro hq; simp [signals_of_select hq]
    rw [next_pstate s hp, if_neg hoff, if_neg hon, next_seq s hp, bgRunAt_successor hselect h.deepest_of_deepPwm,
      next_bgRun s hp, h.bgRun]

theorem State.Inv.depth_next (hd : depthSettledAt s.next.seq = true) :
    s.next.pstate = .deepest ↔ s.next.mode = .off := by
  rw [next_seq s hp] at hd
  rw [next_pstate s hp, next_mode s hp]
  rcases of_depthSettledAt_successor hd with hq | hq | ⟨hoff, hon, hadv, hq⟩
  · simp [hq, h.mode_eq_off (by simp [hq])]
  · simp [hq, h.mode_ne_off (by simp [hq])]
  · simpa [hoff, hon, hadv] using h.depth hq

theorem State.Inv.pwm_next (hw : pwmSettledAt s.next.seq = true) : s.next.pwmEn = true ↔ s.next.mode ≠ .off := by
  rw [next_seq s hp] at hw
  rw [next_pwmEn s hp, next_mode s hp]
  rcases of_pwmSettledAt_successor hw with hq | hq | hq | ⟨hon, hoff, hdeep, hadv, hq⟩
  · simp [hq, h.mode_ne_off (by simp [hq])]
  · simp [hq, h.mode_eq_off (by simp [hq])]
  · simp [hq, h.mode_eq_off (by simp [hq])]
  · simpa [hon, hoff, hdeep, hadv] using h.pwm hq

theorem State.Inv.mode_next : modeFitsAt s.next.seq s.next.mode = true := by
  rw [next_seq s hp]
  by_cases hadv : s.seq = .sAdvance
  · rw [hadv]; rfl
  · rw [next_mode s hp, if_neg (fun hc => hadv hc.1)]
    refine modeFitsAt_successor h.mode ?_ ?_
    · intro hq; simp [signals_of_dispatch hq]
    · intro hq htaken
      refine (h.depth (by rw [hq]; decide)).mp ?_
      simpa [signals_of_select hq] using htaken

theorem State.Inv.duty_next (hd : dutySettledAt s.next.seq = true) (hm : s.next.mode ≠ .off) :
    s.next.pwmCmpBuf = Machine.duty s.next.mode s.next.fullbright := by
  rw [next_seq s hp] at hd
  rw [next_mode s hp] at hm ⊢
  rw [next_pwmCmpBuf s hp, next_fullbright s hp]
  rcases of_dutySettledAt_successor hd with hq | hq | hq | ⟨hset, hadv, hq⟩
  · simp [hq]
  · simp [hq, h.mode_eq_off (by simp [hq])] at hm
  · simp [hq, h.mode_eq_off (by simp [hq])] at hm
  · simp only [hadv, hset, false_and, if_false] at hm ⊢
    exact h.duty hq hm

/-- DLY after a tick: one less in a wait that goes on, else the full value of the state that is entered. -/
theorem State.Inv.dly_next_cases :
    (1 < s.dly ∧ s.next.dly = s.dly - 1 ∧ s.next.seq = s.seq ∧ s.next.pstate = s.pstate) ∨
    s.next.dly = dlyMaxAt s.params s.next.pstate s.next.seq := by
  have hmax := h.dlyMax
  rw [next_dly s hp, next_seq s hp, next_pstate s hp]
  cases hwait : boundedWaitAt s.seq
  case true =>
    rw [signals_of_boundedWait hwait]
    by_cases hdly : 1 < s.dly
    · left
      rcases boundedWaitAt_iff.mp hwait with hq | hq | hq <;>
        simp [hq, State.countdownDly, State.countdownDone, successor, hdly]
    · right
      rcases boundedWaitAt_iff.mp hwait with hq | hq | hq <;>
        simp [hq, State.countdownDly, State.countdownDone, successor, hdly, dlyMaxAt]
  case false =>
    right
    rw [dlyMaxAt_eq_zero _ _ hwait, Nat.le_zero] at hmax
    by_cases hself : s.seq = .sSelftestOn
    · simp [hself, successor, dlyMaxAt]
    by_cases hpoll : s.seq = .sPoll
    · cases hb : s.btn <;> simp [signals_of_poll hpoll, hpoll, hb, successor, dlyMaxAt, hmax]
    by_cases hsleep : s.seq = .sSleep
    · cases hw : s.wake <;> simp [signals_of_sleep hsleep, hsleep, hw, successor, dlyMaxAt, hmax]
    have hnext : boundedWaitAt (successor s.seq (s.signals s.op)) = false := by
      simpa [hself, hpoll, hsleep] using boundedWaitAt_successor (s.signals s.op) hwait
    simp [hself, hpoll, hsleep, hmax, dlyMaxAt_eq_zero _ _ hnext]

theorem State.Inv.dlyMax_next : s.next.dly ≤ dlyMaxAt s.next.params s.next.pstate s.next.seq := by
  rw [(next_bookkeeping s).1]
  rcases h.dly_next_cases hp with ⟨-, hdly, hseq, hpst⟩ | hdly
  · rw [hdly, hseq, hpst]; exact (Nat.sub_le _ _).trans h.dlyMax
  · exact hdly.le

theorem State.Inv.dlyMin_next (hw : boundedWaitAt s.next.seq = true) : 1 ≤ s.next.dly := by
  rcases h.dly_next_cases hp with ⟨hlt, hdly, -, -⟩ | hdly
  · omega
  · rw [hdly]; exact one_le_dlyMaxAt h.inRange.params _ hw

theorem State.Inv.buf_next : s.next.pwmCmpBuf ∈ dutyValues s.next.fullbright := by
  rw [next_pwmCmpBuf s hp, next_fullbright s hp]
  split
  · next hq => exact duty_mem_dutyValues _ (h.mode_ne_off (by simp [hq]))
  · exact h.buf

theorem State.Inv.cmp_next : s.next.pwmCmp ∈ dutyValues s.next.fullbright := by
  rw [next_fullbright s hp]
  rcases next_pwm_cases s hp with ⟨-, -, -, hcmp⟩ | ⟨-, -, -, hcmp⟩ | ⟨-, hran⟩
  · rw [hcmp]; exact h.cmp
  · rw [hcmp]; exact h.buf
  · rw [hran.cmp, pwmRun_cmp_eq]
    split
    · exact h.buf
    · exact h.cmp

end Tick

/-- Every clock edge keeps the invariant: a power-on reset starts it afresh, a tick keeps each clause. -/
theorem State.Inv.next {s : State} (h : s.Inv) : s.next.Inv := by
  cases hp : s.por
  case true => rw [next_of_por s hp]; exact resetWith_inv _ _ _ h.inRange.params
  case false => exact {
    inRange := h.inRange_next hp
    stopped := h.stopped_next hp
    fullbright := by rw [next_fullbright s hp, (next_bookkeeping s).1, h.fullbright]
    led := h.led_next hp
    gie := h.gie_next hp
    pcie := h.pcie_next hp
    bgRun := h.bgRun_next hp
    depth := h.depth_next hp
    pwm := h.pwm_next hp
    mode := h.mode_next hp
    duty := h.duty_next hp
    dlyMax := h.dlyMax_next hp
    dlyMin := h.dlyMin_next hp
    buf := h.buf_next hp
    cmp := h.cmp_next hp }

/-- The invariant holds along every run from a state that has it. -/
theorem State.Inv.sigma {s : State} (h : s.Inv) (n : Nat) : (s.sigma n).Inv := by
  induction n with
  | zero => exact h
  | succ n ih => exact ih.next

/-- The invariant holds in every state of a run from reset. -/
theorem sigma_resetWith_inv (p : Params) (ins : List Inputs) (e n : Nat) (hp : p.wf = true) :
    ((State.resetWith p ins e).sigma n).Inv := (resetWith_inv p ins e hp).sigma n

/-! The facts of 10_state.md R45. -/

theorem Mode.code_lt (m : Mode) : m.code.toNat < 5 := by cases m <;> decide

theorem Seq.code_le (q : Seq) : q.code.toNat ≤ 23 := by cases q <;> decide

/-- Asleep, the depth and the PWM both follow the mode, and the timer follows the depth. -/
theorem State.Inv.asleep {s : State} (h : s.Inv) (hq : s.seq = .sSleep ∨ s.seq = .sWakeup) :
    (s.pstate = .deepest ↔ s.mode = .off) ∧ (s.pwmEn = true ↔ s.mode ≠ .off) ∧ s.bgRun = (s.pstate == .idle) := by
  have hrun := h.bgRun
  rcases hq with hq | hq <;>
    exact ⟨h.depth (by rw [hq]; decide), h.pwm (by rw [hq]; decide), by rw [hrun, hq]; rfl⟩

theorem State.Inv.facts {s : State} (h : s.Inv) : s.Facts where
  a_mode := s.mode.code_lt
  b_cnt := h.inRange.cnt
  b_pre := h.inRange.pre
  c_seq := s.seq.code_le
  d_stopped := h.stopped
  e_armed hq := ⟨by rw [h.pcie, hq]; rfl, by rw [h.gie, hq]; rfl⟩
  f_deepest hq hd := by
    obtain ⟨hdepth, hpwm, hrun⟩ := h.asleep hq
    have hoff := hdepth.mp hd
    exact ⟨by simpa [hoff] using hpwm, by simp [hrun, hd], hoff⟩
  g_idle hq hd := by
    obtain ⟨hdepth, hpwm, hrun⟩ := h.asleep hq
    have hdriving : s.mode ≠ .off := by simpa [hd] using hdepth
    exact ⟨hpwm.mpr hdriving, by simp [hrun, hd], hdriving⟩
  h_led hl := by simpa [h.led] using hl
  i_buf := h.buf
  i_cmp := h.cmp

end Sys2Proof.Machine

/-- Settles O34: the facts are consequences of the inductive invariant, which holds in every state of a run from
reset. -/
theorem reachableStateFacts : Obligations.ReachableStateFacts := by
  intro p ins e n hp
  exact (Sys2Proof.Machine.sigma_resetWith_inv p ins e n hp).facts

/-- Settles O31: each register and each output is read off the reset state. -/
theorem resetValues : Obligations.ResetValues := by
  unfold Obligations.ResetValues
  refine ⟨fun r => ?_, rfl, rfl, rfl, rfl⟩
  cases r <;> rfl

end

section
/-! PROOF. The MODE and SEQ encodings (30_encoding.md R80, R84, R90), and what each sequencer state shows on op_trace
(44_sequencer.md R228). -/

namespace Sys2Proof

/-- An operation word as a number: the opcode above eight operand bits (R85). -/
theorem toNat_encode (i : Instr) : (encode i).toNat = 256 * i.opcode.toNat + i.arg.toNat := by
  have harg := i.arg.isLt
  rw [encode, Uop.toWord, BitVec.toNat_append, ← Nat.shiftLeft_add_eq_or_of_lt harg, Nat.shiftLeft_eq, Nat.mul_comm]

/-- A depth operand has the value of the depth's code (R82, R86). -/
theorem Depth.toNat_zeroExtend_code (d : Depth) : (d.code.zeroExtend 8).toNat = d.code.toNat := by
  cases d <;> rfl

namespace Machine

theorem Mode.ofCode_code (m : Mode) : Mode.ofCode m.code = some m := by cases m <;> rfl

/-- The codes 5, 6 and 7 are no mode (R90). -/
theorem Mode.ofCode_eq_none {c : BitVec 3} (hc : 5 ≤ c.toNat) : Mode.ofCode c = none := by
  unfold Mode.ofCode
  split
  case h_6 => rfl
  all_goals omega

/-- `next_mode` counts modulo five in the codes (40_mode_fsm.md R110). -/
theorem toNat_code_nextMode (m : Mode) : (nextMode m).code.toNat = (m.code.toNat + 1) % 5 := by
  cases m <;> rfl

theorem Seq.mem_all (q : Seq) : q ∈ Seq.all := by cases q <;> decide

theorem Seq.ofCode_code (q : Seq) : Seq.ofCode q.code = some q := by cases q <;> rfl

/-- The codes 24 to 31 are no sequencer state (R90). -/
theorem Seq.ofCode_eq_none {c : BitVec 5} (hc : 24 ≤ c.toNat) : Seq.ofCode c = none :=
  List.getElem?_eq_none hc

end Machine

end Sys2Proof

open Sys2Proof Sys2Proof.Machine in
/-- Settles O17: the table is the definition; the codes of no mode and of no sequencer state are past its ends. -/
theorem modeEncodingFollowsEnumeration : Obligations.ModeEncodingFollowsEnumeration :=
  ⟨rfl, rfl, rfl, rfl, rfl, toNat_code_nextMode, rfl, rfl, rfl, rfl, rfl, Mode.ofCode_code,
    fun _ => Mode.ofCode_eq_none, fun _ => Seq.ofCode_eq_none⟩

open Sys2Proof Sys2Proof.Machine in
/-- Settles O18: the operation is read off R84 state by state, and the word on op_trace is the opcode and the operand of
that operation. -/
theorem sequencerStatesIssueTheirOperations : Obligations.SequencerStatesIssueTheirOperations := by
  refine ⟨rfl, fun q => ⟨q.mem_all, q.ofCode_code⟩, fun s => ⟨rfl, ?_⟩⟩
  rw [State.opTrace, toNat_encode]
  cases hq : s.seq <;> simp only [State.op, hq, Instr.opcode, Instr.arg, Depth.toNat_zeroExtend_code] <;> rfl

end

section
/-! PROOF. The decoder of operation words (30_encoding.md R85 to R89): what it answers on a word of each kind, and that it
undoes the encoder. -/

namespace Sys2Proof

/-! The two fields of a word. -/

/-- The opcode of a word is its value without the eight operand bits (R85). -/
theorem toNat_opc_ofWord (w : OpWord) : (Uop.ofWord w).opc.toNat = w.toNat / 256 := by
  have hw := w.isLt
  simp only [Uop.ofWord, BitVec.extractLsb'_toNat, Nat.shiftRight_eq_div_pow]
  omega

theorem opc_ofWord (w : OpWord) : (Uop.ofWord w).opc = BitVec.ofNat 5 (w.toNat / 256) := by
  rw [← toNat_opc_ofWord, BitVec.ofNat_toNat, BitVec.setWidth_eq]

theorem ofWord_toWord (u : Uop) : Uop.ofWord u.toWord = u :=
  congrArg₂ Uop.mk BitVec.extractLsb'_append_eq_left BitVec.extractLsb'_append_eq_right

/-! The checks, one operand shape at a time. -/

theorem opcodeDefined_eq_false_iff (u : Uop) : u.opcodeDefined = false ↔ u.opc.toNat = 0 ∨ 0x16 ≤ u.opc.toNat := by
  simp only [Uop.opcodeDefined, Bool.and_eq_false_iff, decide_eq_false_iff_not]
  omega

/-- The opcode map by operand shape: the one place that goes through the rows of R87. -/
theorem decodeUop_shape_cases (u : Uop) :
    (u.opcodeDefined = false ∧ decodeUop u = .error (.reservedOpcode u.opc)) ∨
    (u.opcodeDefined = true ∧
      ((u.shape = .noOperand ∧ ∃ i, decodeUop u = readNoOperand u i) ∨
       (u.shape = .depth ∧ ∃ k, decodeUop u = readDepth u k) ∨
       (u.shape = .duty ∧ decodeUop u = .ok (.setDuty u.arg)))) := by
  unfold decodeUop
  split
  case h_22 =>
    left
    refine ⟨(opcodeDefined_eq_false_iff u).mpr ?_, rfl⟩
    simp only [imp_false] at *
    omega
  all_goals
    right
    rename_i hopc
    simp [Uop.opcodeDefined, Uop.shape, hopc]

/-! What the two operand readers answer, in terms of the operand check R89. -/

theorem readNoOperand_cases {u : Uop} (hs : u.shape = .noOperand) (i : Instr) :
    (u.operandFits = true ∧ readNoOperand u i = .ok i) ∨
    (u.operandFits = false ∧ readNoOperand u i = .error (.reservedOperand u.opc u.arg)) := by
  by_cases harg : u.arg = 0
  · exact .inl ⟨by simp [Uop.operandFits, hs, harg], if_pos harg⟩
  · exact .inr ⟨by simpa [Uop.operandFits, hs] using harg, if_neg harg⟩

theorem readDepth_cases {u : Uop} (hs : u.shape = .depth) (k : Depth → Instr) :
    (u.operandFits = true ∧ ∃ d, readDepth u k = .ok (k d)) ∨
    (u.operandFits = false ∧ readDepth u k = .error (.reservedOperand u.opc u.arg)) := by
  simp only [readDepth, Uop.operandFits, hs]
  split
  case h_1 harg => exact .inl ⟨by simp [harg], .idle, rfl⟩
  case h_2 harg => exact .inl ⟨by simp [harg], .deepest, rfl⟩
  case h_3 hzero hone =>
    simp only [imp_false] at hzero hone
    exact .inr ⟨decide_eq_false (by omega), rfl⟩

/-- Everything the decoder can answer: a reserved opcode is refused with the opcode (R88), reserved operand bits with
both fields (R89), and every other word is read. -/
theorem decodeUop_cases (u : Uop) :
    (u.opcodeDefined = false ∧ decodeUop u = .error (.reservedOpcode u.opc)) ∨
    (u.opcodeDefined = true ∧ u.operandFits = false ∧ decodeUop u = .error (.reservedOperand u.opc u.arg)) ∨
    (u.wf = true ∧ ∃ i, decodeUop u = .ok i) := by
  rcases decodeUop_shape_cases u with hres | ⟨hdef, ⟨hs, i, hread⟩ | ⟨hs, k, hread⟩ | ⟨hs, hread⟩⟩
  · exact .inl hres
  · rcases readNoOperand_cases hs i with ⟨hfit, hans⟩ | ⟨hfit, hans⟩
    · exact .inr (.inr ⟨by simp [Uop.wf, hdef, hfit], i, hread.trans hans⟩)
    · exact .inr (.inl ⟨hdef, hfit, hread.trans hans⟩)
  · rcases readDepth_cases hs k with ⟨hfit, d, hans⟩ | ⟨hfit, hans⟩
    · exact .inr (.inr ⟨by simp [Uop.wf, hdef, hfit], k d, hread.trans hans⟩)
    · exact .inr (.inl ⟨hdef, hfit, hread.trans hans⟩)
  · exact .inr (.inr ⟨by simp [Uop.wf, Uop.operandFits, hdef, hs], _, hread⟩)

/-! The decoder on words. -/

/-- A word decodes to an operation exactly when it is well formed (R88, R89). -/
theorem exists_decode_eq_ok_iff_wf (w : OpWord) : (∃ i, decode w = .ok i) ↔ (Uop.ofWord w).wf = true := by
  unfold decode
  rcases decodeUop_cases (Uop.ofWord w) with ⟨hdef, hans⟩ | ⟨_, hfit, hans⟩ | ⟨hwf, hans⟩
  · simp [hans, Uop.wf, hdef]
  · simp [hans, Uop.wf, hfit]
  · exact iff_of_true hans hwf

theorem decode_of_opcode_reserved {w : OpWord} (hw : w.toNat / 256 = 0 ∨ 0x16 ≤ w.toNat / 256) :
    decode w = .error (.reservedOpcode (BitVec.ofNat 5 (w.toNat / 256))) := by
  have hdef : (Uop.ofWord w).opcodeDefined = false := by
    rwa [opcodeDefined_eq_false_iff, toNat_opc_ofWord]
  rw [← opc_ofWord]
  rcases decodeUop_cases (Uop.ofWord w) with ⟨_, hans⟩ | ⟨hdef', _⟩ | ⟨hwf, _⟩
  · exact hans
  · simp [hdef] at hdef'
  · simp [Uop.wf, hdef] at hwf

theorem decode_of_operand_reserved {w : OpWord} (hdef : (Uop.ofWord w).opcodeDefined = true)
    (hfit : (Uop.ofWord w).operandFits = false) :
    decode w = .error (.reservedOperand (Uop.ofWord w).opc (Uop.ofWord w).arg) := by
  rcases decodeUop_cases (Uop.ofWord w) with ⟨hdef', _⟩ | ⟨_, _, hans⟩ | ⟨hwf, _⟩
  · simp [hdef] at hdef'
  · exact hans
  · simp [Uop.wf, hfit] at hwf

/-- The decoder undoes the encoder, row by row of R87. -/
theorem decode_encode (i : Instr) : decode (encode i) = .ok i := by
  rw [decode, encode, ofWord_toWord]
  cases i
  case reqSleep d => cases d <;> rfl
  case sleep d => cases d <;> rfl
  case wakeup d => cases d <;> rfl
  all_goals rfl

end Sys2Proof

open Sys2Proof Sys2Proof.Machine in
/-- Settles O21: the refusals are the cases of the decoder; a word that the sequencer issues is an encoding and so
decodes; and in S_ON_DUTY the invariant of the run fits a driving mode only. -/
theorem reservedWordsAreRefusedByName : Obligations.ReservedWordsAreRefusedByName := by
  refine ⟨exists_decode_eq_ok_iff_wf, fun _ => decode_of_opcode_reserved, fun _ => decode_of_operand_reserved,
    fun v => ⟨_, decode_encode (.setDuty v)⟩, fun s => ?_, fun p ins e n hp hq => ?_⟩
  · exact (exists_decode_eq_ok_iff_wf s.opTrace).mp ⟨s.op, decode_encode s.op⟩
  · exact (sigma_resetWith_inv p ins e n hp).mode_ne_off (by simp [hq])

end

section
/-! PROOF. The two power ports (30_encoding.md R83, 43_power.md R195). -/

namespace Sys2Proof.Machine

/-- Awake outside S_SLEEP and S_WAKEUP. -/
theorem powerState_of_awake {s : State} (hsleep : s.seq ≠ .sSleep) (hwakeup : s.seq ≠ .sWakeup) :
    s.powerState = .awake := by
  unfold State.powerState
  split
  case h_5 => rfl
  all_goals contradiction

/-- In S_SLEEP and S_WAKEUP the depth is PSTATE. -/
theorem powerState_of_asleep {s : State} (hq : s.seq = .sSleep ∨ s.seq = .sWakeup) :
    s.powerState = if s.pstate = .idle then .idleSleep else .deepestSleep := by
  rcases hq with hq | hq <;> cases hd : s.pstate <;> simp [State.powerState, hq, hd]

theorem sleepCode_ne_three (p : PowerState) : sleepCode p ≠ 0b11 := by cases p <;> decide

theorem periphClkEn_eq_false_iff (s : State) : s.periphClkEn = false ↔ s.sleepO = 0b10 := by
  simp [State.periphClkEn]

/-- The clock is off in deepest sleep only. -/
theorem asleep_deepest_of_periphClkEn {s : State} (hclk : s.periphClkEn = false) :
    (s.seq = .sSleep ∨ s.seq = .sWakeup) ∧ s.pstate = .deepest := by
  rw [periphClkEn_eq_false_iff, State.sleepO] at hclk
  by_cases hq : s.seq = .sSleep ∨ s.seq = .sWakeup
  · rw [powerState_of_asleep hq] at hclk
    cases hd : s.pstate
    · simp [hd, sleepCode] at hclk
    · exact ⟨hq, rfl⟩
  · obtain ⟨hsleep, hwakeup⟩ := not_or.mp hq
    rw [powerState_of_awake hsleep hwakeup] at hclk
    simp [sleepCode] at hclk

/-- The pin is low when neither of its two sources drives it (42_pwm.md R156). -/
theorem led_eq_false {s : State} (hforce : s.ledForce = false) (hen : s.pwmEn = false) : s.led = false := by
  simp [State.led, State.pwmOut, hforce, hen]

/-- Asleep, the self-test does not hold the pin high. -/
theorem State.Inv.ledForce_of_asleep {s : State} (h : s.Inv) (hq : s.seq = .sSleep ∨ s.seq = .sWakeup) :
    s.ledForce = false := by
  rw [h.led]
  rcases hq with hq | hq <;> rw [hq] <;> rfl

end Sys2Proof.Machine

open Sys2Proof Sys2Proof.Machine in
/-- Settles O49: sleep_o encodes the power state, and periph_clk_en is off in deepest sleep only, where the invariant
has stopped the PWM and the timer (10_state.md R45 (f)). -/
theorem powerPorts : Obligations.PowerPorts := by
  refine ⟨fun s => ⟨fun hsleep hwakeup => ?_, fun hq hd => ?_, fun hq hd => ?_, sleepCode_ne_three _,
    periphClkEn_eq_false_iff s⟩, fun s hinv hclk => ?_⟩
  · rw [State.sleepO, powerState_of_awake hsleep hwakeup]; rfl
  · rw [State.sleepO, powerState_of_asleep hq, hd]; rfl
  · rw [State.sleepO, powerState_of_asleep hq, hd]; rfl
  · obtain ⟨hq, hd⟩ := asleep_deepest_of_periphClkEn hclk
    obtain ⟨hen, hrun, -⟩ := hinv.facts.f_deepest hq hd
    exact ⟨hen, hrun, led_eq_false (hinv.ledForce_of_asleep hq) hen⟩

end

section
/-! PROOF. What a tick does besides its operation's own writes: the background updates, and the frame from the ownership
table of 10_state.md R42. -/

namespace Sys2Proof.Machine

/-! The frame: a register that the operation does not own reads as before. -/

theorem read_freeRun (s : State) {r : Reg} (hr : r ∉ backgroundRegs) : s.freeRun.read r = s.read r := by
  cases r <;> simp [backgroundRegs, State.read] at hr ⊢

theorem read_finish (s : State) (sig : Signals) (t : State) {r : Reg} (hr : r ∉ backgroundRegs) :
    (s.finish sig t).read r = t.read r := by
  cases r
  case pcif => exact absurd (by decide) hr
  case seq => exact absurd (by decide) hr
  all_goals rfl

/-- An operation writes only what the table gives it. The background registers are left out: PWM_DISABLE puts PWM_CMP
back to its pre-tick value over the free-running latch, though it does not own it. -/
theorem read_writes_of_not_owned (s : State) {i : Instr} (t : State) {r : Reg} (hown : ownedBy r i = false)
    (hr : r ∉ backgroundRegs) : (s.writes i t).read r = t.read r := by
  cases r
  case pwmCmp => exact absurd (by decide) hr
  all_goals cases i <;> cases hown <;> rfl

section Exec

variable {i : Instr} {s t : State} (h : exec i s = .next t)
include h

theorem eq_tick_of_exec : t = s.tick (s.signals i) (s.writes i) := by
  simpa [exec_eq_tick, eq_comm] using h

theorem read_exec_of_not_owned {r : Reg} (hown : ownedBy r i = false) (hr : r ∉ backgroundRegs) :
    t.read r = s.read r := by
  obtain rfl := eq_tick_of_exec h
  calc (s.tick (s.signals i) (s.writes i)).read r
    _ = (s.writes i s.freeRun).read r := read_finish s _ _ hr
    _ = s.freeRun.read r := read_writes_of_not_owned s _ hown hr
    _ = s.read r := read_freeRun s hr

/-- The frame of an operation, once the registers it owns are listed. -/
theorem kept_exec {written : List Reg} (hwritten : ∀ r, ownedBy r i = true → r ∉ backgroundRegs → r ∈ written) :
    Kept s t written := by
  intro r hr hbg
  cases hown : ownedBy r i
  · exact read_exec_of_not_owned h hown hbg
  · exact absurd (hwritten r hown hbg) hr

/-! The background: three parts, each for all operations that do not write there themselves. -/

theorem sampled_exec : Sampled s t := by
  obtain ⟨hparams, hinputs, hedges⟩ := exec_bookkeeping i s t h
  obtain rfl := eq_tick_of_exec h
  exact ⟨by cases i <;> rfl, hparams, hinputs, hedges⟩

theorem flagSetOrKept_exec (hclr : i ≠ .clrWakeFlag) : FlagSetOrKept s t := by
  obtain rfl := eq_tick_of_exec h
  have hkeep (u : State) : (s.writes i u).pcif = u.pcif := by
    cases i
    case clrWakeFlag => exact absurd rfl hclr
    all_goals rfl
  rw [FlagSetOrKept, tick_pcif, hkeep, freeRun_pcif]

theorem pwmRan_exec (hen : i ≠ .pwmEnable) (hdis : i ≠ .pwmDisable) : PwmRan s t := by
  obtain rfl := eq_tick_of_exec h
  have hkeep (u : State) : (s.writes i u).pwmPre = u.pwmPre ∧ (s.writes i u).pwmCnt = u.pwmCnt ∧
      (s.writes i u).pwmCmp = u.pwmCmp := by
    cases i
    case pwmEnable => exact absurd rfl hen
    case pwmDisable => exact absurd rfl hdis
    all_goals exact ⟨rfl, rfl, rfl⟩
  obtain ⟨hpre, hcnt, hcmp⟩ := hkeep s.freeRun
  exact ⟨hpre, hcnt, hcmp⟩

theorem background_exec (hclr : i ≠ .clrWakeFlag) (hen : i ≠ .pwmEnable) (hdis : i ≠ .pwmDisable) :
    Background s t :=
  ⟨sampled_exec h, flagSetOrKept_exec h hclr, pwmRan_exec h hen hdis⟩

end Exec

end Sys2Proof.Machine

end

section
/-! PROOF. The mode machine (40_mode_fsm.md): the duty lookup, when MODE changes, and the directive that stands whenever
the block sleeps. -/

namespace Sys2Proof.Machine

/-- The duty of a driving mode is the quotient of FULLBRIGHT by a power of two (R113). -/
theorem toNat_duty {m : Mode} {k : BitVec 2} (hk : shiftAmount m = some k) (fb : Byte) :
    (duty m fb).toNat = fb.toNat / 2 ^ k.toNat := by
  rw [duty, hk, BitVec.toNat_ushiftRight, Nat.shiftRight_eq_div_pow]

/-- The four boot states are entered by reset and left for good: none follows a later state (44_sequencer.md R223). -/
theorem boot_of_boot_successor {q : Seq} {sig : Signals} (h : (successor q sig).code.toNat < 4) :
    q.code.toNat < 4 := by
  obtain ⟨done, taken⟩ := sig
  revert h
  cases q <;> cases done <;> cases taken <;> decide

/-- Off through boot is kept by every clock edge, whatever the parameters: no boot state advances the mode. -/
theorem next_mode_off_of_boot {s : State} (h : s.seq.code.toNat < 4 → s.mode = .off)
    (hboot : s.next.seq.code.toNat < 4) : s.next.mode = .off := by
  cases hp : s.por
  case true => rw [next_of_por s hp]; rfl
  case false =>
    rw [next_seq s hp] at hboot
    have hq := boot_of_boot_successor hboot
    have hadv : s.seq ≠ .sAdvance := by
      intro hc
      exact absurd hq (by rw [hc]; decide)
    rw [next_mode s hp, if_neg (fun hc => hadv hc.1)]
    exact h hq

theorem sigma_mode_off_of_boot {s : State} (h : s.seq.code.toNat < 4 → s.mode = .off) (n : Nat) :
    (s.sigma n).seq.code.toNat < 4 → (s.sigma n).mode = .off := by
  induction n with
  | zero => exact h
  | succ n ih => exact next_mode_off_of_boot ih

/-- Asleep in a driving mode, the compare buffer holds the duty of that mode at the reset brightness (R114). -/
theorem State.Inv.cmpBuf_of_sleep {s : State} (h : s.Inv) (hq : s.seq = .sSleep) (hm : s.mode ≠ .off) :
    s.pwmCmpBuf = Machine.duty s.mode s.params.fullBrightnessDefault := by
  rw [← h.fullbright]
  exact h.duty (by rw [hq]; decide) hm

end Sys2Proof.Machine

open Sys2Proof Sys2Proof.Machine in
/-- Settles O37: the shift amounts are the table, and a shift by k is a quotient by 2^k. -/
theorem dutyLookup : Obligations.DutyLookup := by
  refine ⟨rfl, rfl, rfl, rfl, rfl, fun fb => ⟨?_, ?_, ?_, ?_⟩⟩
  · exact (toNat_duty (m := .on) rfl fb).trans (Nat.div_one _)
  · exact toNat_duty (m := .fade) rfl fb
  · exact toNat_duty (m := .fastBlink) rfl fb
  · exact toNat_duty (m := .slowBlink) rfl fb

open Sys2Proof Sys2Proof.Machine in
/-- Settles O39: MODE after a tick is `next_mode` in S_ADVANCE with PRESSED and itself otherwise; and Off holds through
boot by induction on the run. -/
theorem modeChangesOnlyOnConfirmedPress : Obligations.ModeChangesOnlyOnConfirmedPress := by
  refine ⟨fun s hp hne => ?_, fun p ins e => sigma_mode_off_of_boot fun _ => rfl⟩
  rw [next_mode s hp] at hne ⊢
  by_cases hpress : s.seq = .sAdvance ∧ s.pressed = true
  · exact ⟨hpress.1, hpress.2, if_pos hpress⟩
  · exact absurd (if_neg hpress) hne

open Sys2Proof Sys2Proof.Machine in
/-- Settles O38: asleep, the invariant ties the depth, the PWM and the compare buffer to the mode; the words at
FULLBRIGHT 250 are computed. -/
theorem directiveTable : Obligations.DirectiveTable := by
  refine ⟨fun p ins e n hp hq => ?_, rfl, rfl, rfl, rfl, rfl, rfl, rfl, rfl⟩
  have hinv := sigma_resetWith_inv p ins e n hp
  obtain ⟨hdepth, hpwm, -⟩ := hinv.asleep (.inl hq)
  refine ⟨fun hoff => ⟨?_, hdepth.mpr hoff⟩, fun hdriving => ⟨hpwm.mpr hdriving, ?_, ?_⟩⟩
  · simpa [hoff] using hpwm
  · cases hd : ((State.resetWith p ins e).sigma n).pstate
    · rfl
    · exact absurd (hdepth.mp hd) hdriving
  · rw [hinv.cmpBuf_of_sleep hq hdriving, sigma_params]
    rfl

end

section
/-! PROOF. The operations of the mode machine and the depth branch: ADVANCE (40_mode_fsm.md R111), DISPATCH (R112) and
SELECT (43_power.md R183). -/

namespace Sys2Proof.Machine

theorem issuedAt_advance : IssuedAt .advance .sAdvance := by
  intro s; cases hq : s.seq <;> simp [State.op, hq]

theorem issuedAt_dispatch : IssuedAt .dispatch .sDispatch := by
  intro s; cases hq : s.seq <;> simp [State.op, hq]

theorem issuedAt_select : IssuedAt .select .sSelect := by
  intro s; cases hq : s.seq <;> simp [State.op, hq]

theorem ownedBy_advance_iff (r : Reg) : ownedBy r .advance = true ↔ r = .mode := by cases r <;> decide

theorem ownedBy_dispatch (r : Reg) : ownedBy r .dispatch = false := by cases r <;> rfl

theorem ownedBy_select (r : Reg) : ownedBy r .select = false := by cases r <;> rfl

section Advance

variable {s t : State} (h : exec .advance s = .next t)
include h

theorem exec_advance_mode : t.mode = if s.pressed then nextMode s.mode else s.mode := by
  cases h; rfl

theorem kept_exec_advance : Kept s t [.mode] :=
  kept_exec h fun r hown _ => by simp [(ownedBy_advance_iff r).mp hown]

/-- Without a confirmed press ADVANCE writes back the mode it read, so it keeps that too. -/
theorem kept_exec_advance_of_not_pressed (hp : s.pressed = false) : Kept s t [] := by
  intro r _ hbg
  by_cases hr : r = .mode
  · simp [hr, State.read, exec_advance_mode h, hp]
  · exact kept_exec_advance h r (by simpa using hr) hbg

end Advance

end Sys2Proof.Machine

open Sys2Proof Sys2Proof.Machine in
/-- Settles O6: ADVANCE owns MODE alone, and every other effect is that of the tick. -/
theorem advanceStepsMode : Obligations.AdvanceStepsMode := by
  refine ⟨rfl, issuedAt_advance, rfl, fun s => ?_⟩
  obtain ⟨t, h⟩ := exec_answers .advance s
  refine ⟨t, h, background_exec h (by simp) (by simp) (by simp), fun hp => ⟨?_, kept_exec_advance h⟩,
    kept_exec_advance_of_not_pressed h, fun hq => ?_⟩
  · simp [exec_advance_mode h, hp]
  · rw [exec_seq _ _ _ h, hq]
    rfl

open Sys2Proof Sys2Proof.Machine in
/-- Settles O7: the two operations own no register, and the successor table branches on the signal that each defines. -/
theorem dispatchAndSelectBranch : Obligations.DispatchAndSelectBranch := by
  refine ⟨⟨rfl, issuedAt_dispatch, fun s => ?_⟩, rfl, issuedAt_select, fun s => ?_⟩
  · obtain ⟨t, h⟩ := exec_answers .dispatch s
    refine ⟨t, h, background_exec h (by simp) (by simp) (by simp),
      kept_exec h (by simp [ownedBy_dispatch]), fun hq hm => ?_, fun hq hm => ?_⟩ <;>
      simp [exec_seq _ _ _ h, hq, hm, State.signals, State.dispatchTaken, successor]
  · obtain ⟨t, h⟩ := exec_answers .select s
    refine ⟨t, h, background_exec h (by simp) (by simp) (by simp),
      kept_exec h (by simp [ownedBy_select]), fun hq hd => ?_, fun hq hd => ?_⟩ <;>
      simp [exec_seq _ _ _ h, hq, hd, State.signals, State.selectTaken, successor]

end

section
/-! PROOF. The Button Input (41_button.md): POLL and DEBOUNCE as one contract over a bounded wait, the operation POLL, and
the pin-change detector with what its flag can influence. -/

namespace Sys2Proof.Machine

/-! PRESSED after a tick, and the two operations that write it. -/

theorem issuedAt_poll : IssuedAt .poll .sPoll := by
  intro s; cases hq : s.seq <;> simp [State.op, hq]

theorem issuedAt_debounce : IssuedAt .debounce .sDebounce := by
  intro s; cases hq : s.seq <;> simp [State.op, hq]

theorem next_pressed (s : State) (hp : s.por = false) :
    s.next.pressed =
      if s.seq = .sPoll then false else if s.seq = .sDebounce ∧ s.countdownDone = true then !s.btn
      else s.pressed := by
  rw [next_eq_tick s hp, tick_pressed, State.op]
  cases s.seq <;> simp [State.writes]

/-- The branch of POLL on the level of the pin (R131). -/
theorem successor_of_poll {s : State} (hq : s.seq = .sPoll) :
    successor s.seq (s.signals .poll) = if s.btn then .sAdvance else .sDebounce := by
  rw [hq, State.signals, State.pollTaken]
  cases s.btn <;> rfl

theorem next_seq_of_poll {s : State} (hq : s.seq = .sPoll) (hp : s.por = false) :
    s.next.seq = if s.btn then .sAdvance else .sDebounce := by
  rw [next_seq s hp, (issuedAt_poll s).mpr hq, successor_of_poll hq]

/-! The bounded waits (44_sequencer.md R222): a wait goes on while DLY is above 1. -/

theorem countdownDone_eq_false_iff (s : State) : s.countdownDone = false ↔ 1 < s.dly := by
  simp [State.countdownDone]

theorem next_of_boundedWait {s : State} (hq : boundedWaitAt s.seq = true) (hp : s.por = false) (hdly : 1 < s.dly) :
    s.next.seq = s.seq ∧ s.next.dly = s.dly - 1 := by
  have hdone := (countdownDone_eq_false_iff s).mpr hdly
  refine ⟨?_, by rw [next_dly s hp, if_pos hq, State.countdownDly, if_pos hdly]⟩
  rw [next_seq s hp, signals_of_boundedWait hq, hdone]
  rcases boundedWaitAt_iff.mp hq with hq | hq | hq <;> rw [hq] <;> rfl

/-- A bounded wait keeps its sequencer state for as many ticks as DLY says, and DLY counts them down. -/
theorem sigma_of_boundedWait {s : State} (hq : boundedWaitAt s.seq = true) (hpow : s.Powered s.dly) {j : Nat}
    (hj : j < s.dly) : (s.sigma j).seq = s.seq ∧ (s.sigma j).dly = s.dly - j := by
  induction j with
  | zero => exact ⟨rfl, rfl⟩
  | succ j ih =>
    obtain ⟨hseq, hdly⟩ := ih (by omega)
    obtain ⟨hseq', hdly'⟩ := next_of_boundedWait (s := s.sigma j) (by rwa [hseq])
      (por_sigma s s.dly j hpow (by omega)) (by omega)
    exact ⟨hseq'.trans hseq, hdly'.trans (by omega)⟩

/-- During the wait of DEBOUNCE, PRESSED stands. -/
theorem sigma_pressed_of_debounce {s : State} (hq : s.seq = .sDebounce) (hpow : s.Powered s.dly) {j : Nat}
    (hj : j < s.dly) : (s.sigma j).pressed = s.pressed := by
  induction j with
  | zero => rfl
  | succ j ih =>
    obtain ⟨hseq, hdly⟩ := sigma_of_boundedWait (by rw [hq]; rfl) hpow (Nat.lt_of_succ_lt hj)
    have hdone := (countdownDone_eq_false_iff (s.sigma j)).mpr (by omega)
    rw [State.sigma, next_pressed _ (por_sigma s s.dly j hpow (by omega)), hseq, hq]
    simpa [hdone] using ih (by omega)

/-- The tick in which DEBOUNCE expires takes the second sample (R132). -/
theorem next_of_debounce_expired {s : State} (hq : s.seq = .sDebounce) (hp : s.por = false) (hdly : s.dly ≤ 1) :
    s.next.seq = .sAdvance ∧ s.next.pressed = !s.btn := by
  have hdone : s.countdownDone = true := by simp [State.countdownDone, hdly]
  constructor
  · rw [next_seq s hp, signals_of_boundedWait (by rw [hq]; rfl), hq, hdone]; rfl
  · simp [next_pressed s hp, hq, hdone]

/-- DEBOUNCE from its first tick, loaded with n: n ticks in S_DEBOUNCE, then S_ADVANCE with the sample of the last. -/
theorem sigma_of_debounce {s : State} (hq : s.seq = .sDebounce) (hpow : s.Powered s.dly) (hdly : 1 ≤ s.dly) :
    (∀ j, j < s.dly → (s.sigma j).seq = .sDebounce ∧ (s.sigma j).pressed = s.pressed) ∧
    (s.sigma s.dly).seq = .sAdvance ∧ (s.sigma s.dly).pressed = !(s.inputAt (s.dly - 1)).btn := by
  have hwait {j : Nat} (hj : j < s.dly) := sigma_of_boundedWait (by rw [hq]; rfl) hpow hj
  refine ⟨fun j hj => ⟨(hwait hj).1.trans hq, sigma_pressed_of_debounce hq hpow hj⟩, ?_⟩
  have hlast : s.dly - 1 < s.dly := by omega
  obtain ⟨hseq, hone⟩ := hwait hlast
  have hexp := next_of_debounce_expired (hseq.trans hq) (por_sigma s _ _ hpow hlast) (by omega)
  rw [State.btn, inputAt_sigma] at hexp
  rw [← Nat.sub_add_cancel hdly]
  exact hexp

/-- POLL with the pin low enters S_DEBOUNCE with DLY loaded and PRESSED clear (R131). -/
theorem next_of_poll_low {s : State} (hq : s.seq = .sPoll) (hp : s.por = false) (hb : s.btn = false) :
    s.next.seq = .sDebounce ∧ s.next.dly = s.params.debounceTicks ∧ s.next.pressed = false := by
  refine ⟨?_, ?_, ?_⟩
  · simp [next_seq_of_poll hq hp, hb]
  · simp [next_dly s hp, hq, hb, boundedWaitAt]
  · simp [next_pressed s hp, hq]

/-! What POLL writes. -/

theorem ownedBy_poll_iff (r : Reg) : ownedBy r .poll = true ↔ r = .btnRaw ∨ r = .pressed ∨ r = .dly := by
  cases r <;> decide

section Poll

variable {s t : State} (h : exec .poll s = .next t)
include h

theorem exec_poll_writes :
    t.btnRaw = s.btn ∧ t.pressed = false ∧ t.dly = if s.btn then s.dly else s.params.debounceTicks := by
  cases h; exact ⟨rfl, rfl, rfl⟩

theorem kept_exec_poll : Kept s t [.btnRaw, .pressed, .dly] :=
  kept_exec h fun r hown _ => by simpa using (ownedBy_poll_iff r).mp hown

/-- With the pin high POLL writes back the delay it read, so it keeps that too. -/
theorem kept_exec_poll_of_high (hb : s.btn = true) : Kept s t [.btnRaw, .pressed] := by
  intro r hr hbg
  obtain ⟨-, -, hdly⟩ := exec_poll_writes h
  by_cases hd : r = .dly
  · simp [hd, State.read, hdly, hb]
  · exact kept_exec_poll h r (by simpa [hd] using hr) hbg

end Poll

/-! The detector (R134). -/

theorem next_btnPrev (s : State) (hp : s.por = false) : s.next.btnPrev = s.btn := by
  obtain ⟨t, h⟩ := exec_answers s.op s
  rw [next_of_exec s t hp h]
  exact (sampled_exec h).btnPrev

/-- PCIF after a tick: the set by an armed edge wins over the clear. -/
theorem next_pcif (s : State) (hp : s.por = false) :
    s.next.pcif = ((if s.op = .clrWakeFlag then false else s.pcif) || (s.pcie && s.edge)) := by
  by_cases hclr : s.op = .clrWakeFlag
  · rw [next_eq_tick s hp, tick_pcif, if_pos hclr, hclr]
    rfl
  · obtain ⟨t, h⟩ := exec_answers s.op s
    rw [next_of_exec s t hp h, if_neg hclr]
    exact flagSetOrKept_exec h hclr

/-! What PCIF can influence: a tick from a state with another value of PCIF, part by part. -/

theorem freeRun_with_pcif (s : State) (b : Bool) :
    ({ s with pcif := b } : State).freeRun = { s.freeRun with pcif := b } := by
  have hrun : ({ s with pcif := b } : State).pwmRun = { s.pwmRun with pcif := b } := by
    unfold State.pwmRun
    dsimp only
    repeat' split
    all_goals rfl
  rw [State.freeRun, hrun]
  rfl

/-- The condition signals read PCIF in SLEEP only. -/
theorem signals_with_pcif (s : State) (b : Bool) {i : Instr} (hi : ∀ d, i ≠ .sleep d) :
    ({ s with pcif := b } : State).signals i = s.signals i := by
  cases i
  case sleep d => exact absurd rfl (hi d)
  all_goals rfl

/-- The writes read PCIF in SLEEP only, for DLY. -/
theorem read_writes_with_pcif (s t : State) (b : Bool) {i : Instr} {r : Reg} (hr : r ≠ .pcif)
    (hdly : r = .dly → ∀ d, i ≠ .sleep d) :
    (({ s with pcif := b } : State).writes i { t with pcif := b }).read r = (s.writes i t).read r := by
  cases r
  case pcif => exact absurd rfl hr
  case dly =>
    cases i
    case sleep d => exact absurd rfl (hdly rfl d)
    all_goals rfl
  all_goals cases i <;> rfl

theorem read_tick (s : State) (sig : Signals) (w : State → State) {r : Reg} (hpcif : r ≠ .pcif) (hseq : r ≠ .seq) :
    (s.tick sig w).read r = (w s.freeRun).read r := by
  cases r
  case pcif => exact absurd rfl hpcif
  case seq => exact absurd rfl hseq
  all_goals rfl

theorem op_ne_sleep {s : State} (hq : s.seq ≠ .sSleep) (d : Depth) : s.op ≠ .sleep d := by
  cases hs : s.seq
  case sSleep => exact absurd hs hq
  all_goals simp [State.op, hs]

/-- PCIF reaches no other register in a clock edge, but for DLY and SEQ through the wake condition of S_SLEEP. -/
theorem read_next_with_pcif (s : State) (b : Bool) {r : Reg} (hr : r ≠ .pcif)
    (hsleep : s.seq = .sSleep → r ≠ .dly ∧ r ≠ .seq) :
    ({ s with pcif := b } : State).next.read r = s.next.read r := by
  cases hp : s.por
  case true => rw [next_of_por s hp, next_of_por { s with pcif := b } hp]; rfl
  case false =>
    have hop (hw : r = .dly ∨ r = .seq) : ∀ d, s.op ≠ .sleep d :=
      op_ne_sleep fun hq => (not_or.mpr (hsleep hq)) hw
    rw [next_eq_tick s hp, next_eq_tick { s with pcif := b } hp]
    by_cases hseq : r = .seq
    · subst hseq
      have hsig := signals_with_pcif s b (hop (.inr rfl))
      exact congrArg (fun sig => (successor s.seq sig).code.toNat) hsig
    · rw [read_tick _ _ _ hr hseq, read_tick _ _ _ hr hseq, freeRun_with_pcif]
      exact read_writes_with_pcif s s.freeRun b hr fun hd => hop (.inl hd)

end Sys2Proof.Machine

open Sys2Proof Sys2Proof.Machine in
/-- Settles O41: POLL takes one tick; with the pin low it starts the bounded wait of DEBOUNCE, an induction on its ticks,
whose last one takes the second sample; and DEBOUNCE alone can set PRESSED, by `next_pressed`. -/
theorem pollButtonContract : Obligations.PollButtonContract := by
  refine ⟨fun s hq hp hb => ?_, fun s hwf hq hpow hb => ?_, fun s hp hclear hset => ?_⟩
  · exact ⟨by simp [State.sigma, next_seq_of_poll hq hp, hb], by simp [State.sigma, next_pressed s hp, hq]⟩
  · obtain ⟨hseq, hdly, hclear⟩ := next_of_poll_low hq (hpow 0 (Nat.succ_pos _)) hb
    have hone := Params.one_le_debounceTicks hwf
    have hpow' : s.next.Powered s.next.dly := powered_sigma s _ 1 _ hpow (by omega)
    obtain ⟨hwait, hadv, hsample⟩ := sigma_of_debounce hseq hpow' (by omega)
    rw [hdly] at hwait hadv hsample
    have hinput : s.next.inputAt (s.params.debounceTicks - 1) = s.inputAt s.params.debounceTicks := by
      rw [show s.next = s.sigma 1 from rfl, inputAt_sigma]
      congr 1; omega
    refine ⟨fun j hj hle => ?_, ?_, ?_⟩
    · obtain ⟨k, rfl⟩ : ∃ k, j = k + 1 := ⟨j - 1, by omega⟩
      obtain ⟨hseqk, hpressed⟩ := hwait k hle
      rw [sigma_next]
      exact ⟨hseqk, hpressed.trans hclear⟩
    · rw [sigma_next]; exact hadv
    · rw [sigma_next, hsample, hinput, Bool.not_eq_true']
  · rw [issuedAt_debounce s]
    rw [next_pressed s hp, hclear] at hset
    by_contra hq
    simp [hq] at hset

open Sys2Proof Sys2Proof.Machine in
/-- Settles O42: the two detector registers after a tick, and the one lemma on the reach of PCIF, outside S_SLEEP and for
the registers that the wake condition does not decide. -/
theorem pinChangeDetector : Obligations.PinChangeDetector := by
  refine ⟨fun s hp => ⟨next_btnPrev s hp, ?_⟩, fun s b hq r hr => ?_, fun s b r hr hdly hseq => ?_⟩
  · rw [next_pcif s hp]
    by_cases hset : s.pcie = true ∧ s.btn ≠ s.btnPrev
    · simp [hset, State.edge]
    · have hedge : (s.pcie && s.edge) = false := by simpa [State.edge] using hset
      rw [if_neg hset, hedge, Bool.or_false]
  · exact read_next_with_pcif s b hr fun hc => absurd hc hq
  · exact read_next_with_pcif s b hr fun _ => ⟨hdly, hseq⟩

open Sys2Proof Sys2Proof.Machine in
/-- Settles O4: POLL owns three registers, and the successor table branches on the level it reads. -/
theorem pollTakesFirstSample : Obligations.PollTakesFirstSample := by
  refine ⟨rfl, issuedAt_poll, fun s => ?_⟩
  obtain ⟨t, h⟩ := exec_answers .poll s
  obtain ⟨hraw, hpressed, hdly⟩ := exec_poll_writes h
  have hseq (hq : s.seq = .sPoll) : t.seq = if s.btn then .sAdvance else .sDebounce :=
    (exec_seq _ _ _ h).trans (successor_of_poll hq)
  refine ⟨t, h, hraw, hpressed, background_exec h (by simp) (by simp) (by simp), fun hb => ?_, fun hb => ?_⟩
  · refine ⟨?_, kept_exec_poll h, fun hq => ?_⟩
    · rw [hdly, hb]; rfl
    · rw [hseq hq, hb]; rfl
  · exact ⟨kept_exec_poll_of_high h hb, fun hq => by rw [hseq hq, hb]; rfl⟩

end

section
/-! PROOF. The Timer/PWM Driver (42_pwm.md): the free-running update as equations, what its three operations write, and
from both what a clock edge does to the PWM unit. -/

namespace Sys2Proof.Machine

/-! The free-running update (R154, R155). -/

theorem pwmRun_of_disabled {s : State} (hen : s.pwmEn = false) : s.pwmRun = s := by
  simp [State.pwmRun, hen]

theorem pwmWraps_iff (s : State) :
    s.pwmWraps = true ↔
      s.pwmEn = true ∧ s.pwmPre = s.params.pwmDiv - 1 ∧ s.pwmCnt.toNat = s.params.pwmTop - 1 := by
  simp [State.pwmWraps, and_assoc]

theorem pwmRun_pre_eq {s : State} (hen : s.pwmEn = true) :
    s.pwmRun.pwmPre = if s.pwmPre = s.params.pwmDiv - 1 then 0 else s.pwmPre + 1 := by
  rcases pwmRun_cases s with ⟨hstop, -⟩ | ⟨hwrap, hrun⟩ | ⟨-, hpre, -, hrun⟩ | ⟨-, hpre, hrun⟩
  · simp [hen] at hstop
  · obtain ⟨-, hpre, -⟩ := (pwmWraps_iff s).mp hwrap
    rw [hrun, if_pos hpre]
  · rw [hrun, if_pos hpre]
  · rw [hrun, if_neg hpre]

theorem pwmRun_cnt_eq {s : State} (hen : s.pwmEn = true) :
    s.pwmRun.pwmCnt =
      if s.pwmPre = s.params.pwmDiv - 1 then
        if s.pwmCnt.toNat = s.params.pwmTop - 1 then 0 else s.pwmCnt + 1
      else s.pwmCnt := by
  rcases pwmRun_cases s with ⟨hstop, -⟩ | ⟨hwrap, hrun⟩ | ⟨-, hpre, hcnt, hrun⟩ | ⟨-, hpre, hrun⟩
  · simp [hen] at hstop
  · obtain ⟨-, hpre, hcnt⟩ := (pwmWraps_iff s).mp hwrap
    rw [hrun, if_pos hpre, if_pos hcnt]
  · rw [hrun, if_pos hpre, if_neg hcnt]
  · rw [hrun, if_neg hpre]

/-! The three operations: who issues them, what they own, what they write. -/

theorem issuedAt_pwmEnable : IssuedAt .pwmEnable .sOnPwm := by
  intro s; cases hq : s.seq <;> simp [State.op, hq]

theorem op_eq_setDuty_iff (s : State) (v : Byte) :
    s.op = .setDuty v ↔ s.seq = .sOnDuty ∧ v = duty s.mode s.fullbright := by
  cases hq : s.seq <;> simp [State.op, hq, eq_comm]

theorem seq_of_op_pwmDisable {s : State} (hop : s.op = .pwmDisable) : s.seq = .sOffPwm ∨ s.seq = .sDeepPwm := by
  cases hq : s.seq <;> simp [State.op, hq] at hop ⊢

theorem ownedBy_pwmEn_iff (i : Instr) : ownedBy .pwmEn i = true ↔ i = .pwmEnable ∨ i = .pwmDisable := by
  cases i <;> simp [ownedBy]

theorem ownedBy_pwmCmpBuf_iff (i : Instr) : ownedBy .pwmCmpBuf i = true ↔ ∃ v, i = .setDuty v := by
  cases i <;> simp [ownedBy]

theorem ownedBy_pwmEnable {r : Reg} (hown : ownedBy r .pwmEnable = true) (hbg : r ∉ backgroundRegs) : r = .pwmEn := by
  revert hown hbg; cases r <;> decide

theorem ownedBy_setDuty_iff (r : Reg) (v : Byte) : ownedBy r (.setDuty v) = true ↔ r = .pwmCmpBuf := by
  cases r <;> simp [ownedBy]

/-- An operation of the PWM owns no register outside the unit (R150). -/
theorem ownedBy_of_not_mem_pwmRegs {i : Instr} {r : Reg}
    (hi : i = .pwmEnable ∨ i = .pwmDisable ∨ ∃ v, i = .setDuty v) (hr : r ∉ pwmRegs) : ownedBy r i = false := by
  obtain rfl | rfl | ⟨v, rfl⟩ := hi <;> cases r <;> simp [pwmRegs, ownedBy] at hr ⊢

section Exec

variable {i : Instr} {s t : State}

theorem pwmEn_exec (h : exec i s = .next t) (hen : i ≠ .pwmEnable) (hdis : i ≠ .pwmDisable) : t.pwmEn = s.pwmEn := by
  have hown : ownedBy .pwmEn i = false := Bool.eq_false_iff.mpr (by simp [ownedBy_pwmEn_iff, hen, hdis])
  have hinj : Function.Injective Bool.toNat := by decide
  exact hinj (read_exec_of_not_owned h hown (by decide))

theorem pwmCmpBuf_exec (h : exec i s = .next t) (hset : ∀ v, i ≠ .setDuty v) : t.pwmCmpBuf = s.pwmCmpBuf := by
  have hown : ownedBy .pwmCmpBuf i = false := Bool.eq_false_iff.mpr (by simp [ownedBy_pwmCmpBuf_iff, hset])
  exact BitVec.toNat_injective (read_exec_of_not_owned h hown (by decide))

/-- PWM_ENABLE on a stopped PWM starts a fresh period with the buffered compare value (R151). -/
theorem exec_pwmEnable_of_disabled (h : exec .pwmEnable s = .next t) (hen : s.pwmEn = false) :
    t.pwmEn = true ∧ t.pwmPre = 0 ∧ t.pwmCnt = 0 ∧ t.pwmCmp = s.pwmCmpBuf := by
  obtain rfl := eq_tick_of_exec h
  simp [State.writes, hen]

/-- PWM_ENABLE on a running PWM leaves it to the free-running update (R151). -/
theorem exec_pwmEnable_of_enabled (h : exec .pwmEnable s = .next t) (hen : s.pwmEn = true) :
    t.pwmEn = true ∧ PwmRan s t := by
  obtain rfl := eq_tick_of_exec h
  exact ⟨by simp [State.writes, hen], by simp [State.writes, hen], by simp [State.writes, hen],
    by simp [State.writes, hen]⟩

theorem exec_pwmDisable_writes (h : exec .pwmDisable s = .next t) :
    t.pwmEn = false ∧ t.pwmPre = 0 ∧ t.pwmCnt = 0 ∧ t.pwmCmp = s.pwmCmp := by
  cases h; exact ⟨rfl, rfl, rfl, rfl⟩

theorem kept_exec_pwmEnable (h : exec .pwmEnable s = .next t) : Kept s t [.pwmEn] :=
  kept_exec h fun r hown hbg => by simp [ownedBy_pwmEnable hown hbg]

/-- On a running PWM, PWM_EN is 1 before and after PWM_ENABLE, so it is kept too. -/
theorem kept_exec_pwmEnable_of_enabled (h : exec .pwmEnable s = .next t) (hen : s.pwmEn = true) : Kept s t [] := by
  intro r _ hbg
  obtain ⟨hen', -⟩ := exec_pwmEnable_of_enabled h hen
  by_cases hr : r = .pwmEn
  · simp [hr, State.read, hen, hen']
  · exact kept_exec_pwmEnable h r (by simpa using hr) hbg

end Exec

/-! A clock edge that neither stops nor starts the PWM. -/

/-- Without PWM_DISABLE and without a PWM_ENABLE that enables, the unit runs free (R154, R155). -/
theorem next_pwmRan {s : State} (hp : s.por = false) (hdis : s.op ≠ .pwmDisable)
    (hon : ¬ (s.op = .pwmEnable ∧ s.pwmEn = false)) : s.next.pwmEn = s.pwmEn ∧ PwmRan s s.next := by
  obtain ⟨t, h⟩ := exec_answers s.op s
  rw [next_of_exec s t hp h]
  by_cases hop : s.op = .pwmEnable
  · have hen : s.pwmEn = true := by simpa [hop] using hon
    rw [hop] at h
    obtain ⟨hen', hran⟩ := exec_pwmEnable_of_enabled h hen
    exact ⟨hen'.trans hen.symm, hran⟩
  · exact ⟨pwmEn_exec h hop hdis, pwmRan_exec h hop hdis⟩

/-- An enabled PWM runs on until PWM_DISABLE. -/
theorem next_pwmRan_of_enabled {s : State} (hp : s.por = false) (hdis : s.op ≠ .pwmDisable) (hen : s.pwmEn = true) :
    s.next.pwmEn = true ∧ PwmRan s s.next := by
  obtain ⟨hsame, hran⟩ := next_pwmRan hp hdis (by simp [hen])
  exact ⟨hsame.trans hen, hran⟩

end Sys2Proof.Machine

end

section
/-! PROOF. The PWM over whole runs (42_pwm.md R154 to R157): the counter in closed form, the compare value over one
period, and how long the LED is high in it. -/

namespace Sys2Proof.Machine

/-! One more tick, in the prescaler's and the counter's arithmetic. -/

theorem add_one_mod_eq_ite (n : Nat) {d : Nat} (hd : 0 < d) :
    (n + 1) % d = if n % d = d - 1 then 0 else n % d + 1 := by
  have hlt := Nat.mod_lt n hd
  rw [← Nat.mod_add_mod]
  split
  · next hlast => rw [hlast, Nat.sub_add_cancel hd, Nat.mod_self]
  · exact Nat.mod_eq_of_lt (by omega)

theorem add_one_div_eq_ite (n : Nat) {d : Nat} (hd : 0 < d) :
    (n + 1) / d = if n % d = d - 1 then n / d + 1 else n / d := by
  simp only [Nat.succ_div, Nat.dvd_iff_mod_eq_zero, add_one_mod_eq_ite n hd]
  split <;> simp

/-- In range the counter does not overflow its eight bits. -/
theorem toNat_pwmRun_cnt {s : State} (hen : s.pwmEn = true) (htop : s.params.pwmTop ≤ 255)
    (hcnt : s.pwmCnt.toNat < s.params.pwmTop) :
    s.pwmRun.pwmCnt.toNat =
      if s.pwmPre = s.params.pwmDiv - 1 then
        if s.pwmCnt.toNat = s.params.pwmTop - 1 then 0 else s.pwmCnt.toNat + 1
      else s.pwmCnt.toNat := by
  rw [pwmRun_cnt_eq hen]
  split_ifs
  · rfl
  · rw [BitVec.toNat_add]; exact Nat.mod_eq_of_lt (by simp; omega)
  · rfl

section FromZero

variable {s : State} {n : Nat} (hrange : s.InRange) (hen : s.pwmEn = true) (hcnt : s.pwmCnt = 0) (hpre : s.pwmPre = 0)
  (hpow : s.Powered n) (hdis : ∀ j, j < n → (s.sigma j).op ≠ .pwmDisable)

include hen hpow hdis in
theorem sigma_pwmEn_of_enabled {j : Nat} (hj : j ≤ n) : (s.sigma j).pwmEn = true := by
  induction j with
  | zero => exact hen
  | succ j ih => exact (next_pwmRan_of_enabled (por_sigma s n j hpow hj) (hdis j hj) (ih (by omega))).1

include hen hpow hdis in
theorem sigma_pwmRan_of_enabled {j : Nat} (hj : j < n) : PwmRan (s.sigma j) (s.sigma (j + 1)) :=
  (next_pwmRan_of_enabled (por_sigma s n j hpow hj) (hdis j hj) (sigma_pwmEn_of_enabled hen hpow hdis hj.le)).2

include hrange hen hcnt hpre hpow hdis

/-- The prescaler and the counter are the two digits of the tick number, in the bases PWM_DIV and PWM_TOP. -/
theorem sigma_pre_cnt_from_zero {j : Nat} (hj : j ≤ n) :
    (s.sigma j).pwmPre = j % s.params.pwmDiv ∧
      (s.sigma j).pwmCnt.toNat = j / s.params.pwmDiv % s.params.pwmTop := by
  obtain ⟨-, -, htop, htop', -, hdiv, -⟩ := s.params.wf_iff.mp hrange.params
  induction j with
  | zero => simp [State.sigma, hcnt, hpre]
  | succ j ih =>
    obtain ⟨hprej, hcntj⟩ := ih (by omega)
    have hran := sigma_pwmRan_of_enabled hen hpow hdis hj
    have henj := sigma_pwmEn_of_enabled hen hpow hdis (Nat.le_of_succ_le hj)
    have hlt := Nat.mod_lt (j / s.params.pwmDiv) htop
    constructor
    · rw [hran.pre, pwmRun_pre_eq henj, sigma_params, hprej, add_one_mod_eq_ite j hdiv]
    · rw [hran.cnt, toNat_pwmRun_cnt henj (by rwa [sigma_params]) (by rwa [sigma_params, hcntj]), sigma_params, hprej,
        hcntj, add_one_div_eq_ite j hdiv]
      split
      · exact (add_one_mod_eq_ite _ htop).symm
      · rfl

/-- A tick that is not the last of the period does not wrap. -/
theorem sigma_pwmWraps_eq_false {j : Nat} (hj : j ≤ n) (hlast : j + 1 < s.params.pwmTop * s.params.pwmDiv) :
    (s.sigma j).pwmWraps = false := by
  obtain ⟨-, -, htop, -, -, hdiv, -⟩ := s.params.wf_iff.mp hrange.params
  obtain ⟨hprej, hcntj⟩ := sigma_pre_cnt_from_zero hrange hen hcnt hpre hpow hdis hj
  rw [Bool.eq_false_iff, ne_eq, pwmWraps_iff, sigma_params, hprej, hcntj]
  rintro ⟨-, hmod, hdivmod⟩
  have hquot : (j + 1) / s.params.pwmDiv < s.params.pwmTop := (Nat.div_lt_iff_lt_mul hdiv).mpr hlast
  rw [add_one_div_eq_ite j hdiv, if_pos hmod] at hquot
  rw [Nat.mod_eq_of_lt (by omega)] at hdivmod
  omega

/-- The compare value stands for the whole first period, whatever goes into the buffer (R155). -/
theorem sigma_cmp_of_lt_period {j : Nat} (hj : j ≤ n) (hper : j < s.params.pwmTop * s.params.pwmDiv) :
    (s.sigma j).pwmCmp = s.pwmCmp := by
  induction j with
  | zero => rfl
  | succ j ih =>
    have hwrap := sigma_pwmWraps_eq_false hrange hen hcnt hpre hpow hdis (Nat.le_of_succ_le hj) hper
    rw [(sigma_pwmRan_of_enabled hen hpow hdis hj).cmp, pwmRun_cmp_eq, hwrap]
    exact ih (by omega) (by omega)

/-- In the first period the comparator is high while the count is below the compare value (R156). -/
theorem sigma_pwmOut_iff {j : Nat} (hj : j ≤ n) (hper : j < s.params.pwmTop * s.params.pwmDiv) :
    (s.sigma j).pwmOut = true ↔ j / s.params.pwmDiv < s.pwmCmp.toNat := by
  obtain ⟨-, -, -, -, -, hdiv, -⟩ := s.params.wf_iff.mp hrange.params
  obtain ⟨-, hcntj⟩ := sigma_pre_cnt_from_zero hrange hen hcnt hpre hpow hdis hj
  rw [Nat.mod_eq_of_lt ((Nat.div_lt_iff_lt_mul hdiv).mpr hper)] at hcntj
  simp [State.pwmOut, sigma_pwmEn_of_enabled hen hpow hdis hj, hcntj,
    sigma_cmp_of_lt_period hrange hen hcnt hpre hpow hdis hj hper]

end FromZero

theorem led_iff (s : State) :
    s.led = true ↔ s.ledForce = true ∨ (s.pwmEn = true ∧ s.pwmCnt.toNat < s.pwmCmp.toNat) := by
  simp [State.led, State.pwmOut]

/-- When `led` is high in exactly the first k ticks, it is high for as many of the first n. -/
theorem highTicks_eq_min {s : State} {n k : Nat} (hled : ∀ j, j < n → ((s.sigma j).led = true ↔ j < k)) :
    s.highTicks n = min n k := by
  induction n with
  | zero => simp [State.highTicks]
  | succ n ih =>
    have hn := hled n (Nat.lt_succ_self n)
    rw [State.highTicks, ih fun j hj => hled j (by omega)]
    by_cases hk : n < k
    · rw [hn.mpr hk, Bool.toNat_true]; omega
    · rw [Bool.eq_false_iff.mpr (hn.not.mpr hk), Bool.toNat_false]; omega

end Sys2Proof.Machine

open Sys2Proof Sys2Proof.Machine in
/-- Settles O46: over the first period the counter is the quotient of the tick number by PWM_DIV and the compare value
stands, so `led` is high in its first `c * PWM_DIV` ticks and in no other. -/
theorem dutyFraction : Obligations.DutyFraction := by
  refine ⟨fun s => ⟨led_iff s, rfl⟩, fun s hrange hen hcnt hpre hpow hrun => ?_⟩
  obtain ⟨-, -, -, -, -, hdiv, -⟩ := s.params.wf_iff.mp hrange.params
  have hled (j : Nat) (hj : j < s.params.pwmTop * s.params.pwmDiv) :
      (s.sigma j).led = true ↔ j / s.params.pwmDiv < s.pwmCmp.toNat := by
    rw [State.led, (hrun j hj).2, Bool.false_or]
    exact sigma_pwmOut_iff hrange hen hcnt hpre hpow (fun k hk => (hrun k hk).1) hj.le hj
  refine ⟨hled, ?_⟩
  rw [highTicks_eq_min fun j hj => (hled j hj).trans (Nat.div_lt_iff_lt_mul hdiv), Nat.mul_min_mul_right,
    Nat.min_comm]

open Sys2Proof Sys2Proof.Machine in
/-- Settles O45: a tick that neither stops nor starts the PWM is the free-running update; the closed form is an induction
on the ticks; and deepest sleep is entered with the PWM stopped (10_state.md R45 (f)). -/
theorem counterUpdate : Obligations.CounterUpdate := by
  refine ⟨fun s hp hdis hon => ?_, fun s n hrange hen hcnt hpre hpow hdis =>
    sigma_pre_cnt_from_zero hrange hen hcnt hpre hpow hdis le_rfl, fun s hinv hsleep => ?_⟩
  · obtain ⟨-, hran⟩ := next_pwmRan hp hdis hon
    refine ⟨fun hen => ?_, fun hen hlast => ?_, fun hen hlast => ?_⟩
    · rw [hran.pre, hran.cnt, pwmRun_of_disabled hen]
      exact ⟨rfl, rfl⟩
    · rw [hran.pre, hran.cnt, pwmRun_pre_eq hen, pwmRun_cnt_eq hen, if_pos hlast, if_pos hlast]
      exact ⟨rfl, rfl⟩
    · rw [hran.pre, hran.cnt, pwmRun_pre_eq hen, pwmRun_cnt_eq hen, if_neg hlast, if_neg hlast]
      exact ⟨rfl, rfl⟩
  · obtain ⟨hq, hd⟩ := asleep_deepest_of_periphClkEn ((periphClkEn_eq_false_iff s).mpr hsleep)
    exact (hinv.facts.f_deepest hq hd).1

end

section
/-! PROOF. The directive is idempotent (42_pwm.md R159): where PWM_EN and the buffer already are what the mode asks for,
a tick does to the PWM unit what the free-running update does, whatever the operation. -/

namespace Sys2Proof.Machine

/-- Two states agree on the PWM unit and on the parameters that its update reads. -/
structure PwmAgree (s t : State) : Prop where
  params : s.params = t.params
  en : s.pwmEn = t.pwmEn
  pre : s.pwmPre = t.pwmPre
  cnt : s.pwmCnt = t.pwmCnt
  buf : s.pwmCmpBuf = t.pwmCmpBuf
  cmp : s.pwmCmp = t.pwmCmp

/-- The PWM unit is as the directive of the mode leaves it (40_mode_fsm.md R114). -/
structure State.DirectiveStands (s : State) : Prop where
  en : s.pwmEn = true ↔ s.mode ≠ .off
  buf : s.mode ≠ .off → s.pwmCmpBuf = duty s.mode s.fullbright

theorem PwmAgree.refl (s : State) : PwmAgree s s := ⟨rfl, rfl, rfl, rfl, rfl, rfl⟩

theorem PwmAgree.trans {s t u : State} (hst : PwmAgree s t) (htu : PwmAgree t u) : PwmAgree s u :=
  ⟨hst.params.trans htu.params, hst.en.trans htu.en, hst.pre.trans htu.pre, hst.cnt.trans htu.cnt,
    hst.buf.trans htu.buf, hst.cmp.trans htu.cmp⟩

/-- The free-running update reads nothing outside the PWM unit. -/
theorem PwmAgree.pwmRun {s t : State} (h : PwmAgree s t) : PwmAgree s.pwmRun t.pwmRun := by
  cases hen : t.pwmEn
  case false => rwa [pwmRun_of_disabled hen, pwmRun_of_disabled (h.en.trans hen)]
  case true =>
    have hen' := h.en.trans hen
    have hwraps : s.pwmWraps = t.pwmWraps := by simp [State.pwmWraps, h.en, h.pre, h.cnt, h.params]
    exact {
      params := by simpa using h.params
      en := by simpa using h.en
      pre := by rw [pwmRun_pre_eq hen', pwmRun_pre_eq hen, h.pre, h.params]
      cnt := by rw [pwmRun_cnt_eq hen', pwmRun_cnt_eq hen, h.pre, h.cnt, h.params]
      buf := by simpa using h.buf
      cmp := by rw [pwmRun_cmp_eq, pwmRun_cmp_eq, hwraps, h.buf, h.cmp] }

theorem PwmAgree.read_eq {s t : State} (h : PwmAgree s t) {r : Reg} (hr : r ∈ pwmRegs) : s.read r = t.read r := by
  obtain ⟨-, hen, hpre, hcnt, hbuf, hcmp⟩ := h
  cases r <;> simp [pwmRegs, State.read, hen, hpre, hcnt, hbuf, hcmp] at hr ⊢

theorem PwmAgree.led_eq {s t : State} (h : PwmAgree s t) (hforce : s.ledForce = t.ledForce) : s.led = t.led := by
  simp [State.led, State.pwmOut, hforce, h.en, h.cnt, h.cmp]

section Tick

variable {s : State} (h : s.Inv) (hstands : s.DirectiveStands) (hp : s.por = false)
include h hstands hp

/-- SET_DUTY writes the value that the buffer holds. -/
theorem next_buf_of_directiveStands : s.next.pwmCmpBuf = s.pwmCmpBuf := by
  rw [next_pwmCmpBuf s hp]
  split
  · next hq => exact (hstands.buf (h.mode_ne_off (by simp [hq]))).symm
  · rfl

/-- PWM_DISABLE finds the PWM stopped and PWM_ENABLE finds it running, so neither changes it. -/
theorem next_pwmRan_of_directiveStands : s.next.pwmEn = s.pwmEn ∧ PwmRan s s.next := by
  by_cases hdis : s.op = .pwmDisable
  · have hoff : s.mode = .off := h.mode_eq_off (by rcases seq_of_op_pwmDisable hdis with hq | hq <;> simp [hq])
    have hen : s.pwmEn = false := by simpa [hoff] using hstands.en
    obtain ⟨hcnt, hpre⟩ := h.stopped hen
    obtain ⟨t, ht⟩ := exec_answers s.op s
    rw [next_of_exec s t hp ht]
    rw [hdis] at ht
    obtain ⟨hen', hpre', hcnt', hcmp'⟩ := exec_pwmDisable_writes ht
    refine ⟨hen'.trans hen.symm, ?_, ?_, ?_⟩ <;> rw [pwmRun_of_disabled hen]
    · exact hpre'.trans hpre.symm
    · exact hcnt'.trans hcnt.symm
    · exact hcmp'
  · refine next_pwmRan hp hdis fun ⟨hon, hen⟩ => ?_
    have hm := h.mode_ne_off (.inl ((issuedAt_pwmEnable s).mp hon))
    simp [hstands.en.mpr hm] at hen

theorem next_pwmAgree : PwmAgree s.next s.pwmRun := by
  obtain ⟨hen, hran⟩ := next_pwmRan_of_directiveStands h hstands hp
  exact ⟨by rw [(next_bookkeeping s).1, pwmRun_params], by rw [hen, pwmRun_pwmEn], hran.pre, hran.cnt,
    by rw [next_buf_of_directiveStands h hstands hp, pwmRun_pwmCmpBuf], hran.cmp⟩

theorem next_directiveStands (hmode : s.next.mode = s.mode) : s.next.DirectiveStands := by
  obtain ⟨hen, -⟩ := next_pwmRan_of_directiveStands h hstands hp
  constructor
  · rw [hen, hmode]; exact hstands.en
  · rw [hmode, next_fullbright s hp, next_buf_of_directiveStands h hstands hp]; exact hstands.buf

end Tick

/-- At S_POLL the last directive has settled. -/
theorem State.Inv.directiveStands_of_poll {s : State} (h : s.Inv) (hq : s.seq = .sPoll) : s.DirectiveStands :=
  ⟨h.pwm (by rw [hq]; rfl), h.duty (by rw [hq]; rfl)⟩

/-- While the mode stays, the PWM unit runs along a run as it runs alone. -/
theorem sigma_pwmAgree {s : State} (h : s.Inv) (hstands : s.DirectiveStands) {n : Nat} (hpow : s.Powered n)
    (hmode : ∀ j, j ≤ n → (s.sigma j).mode = s.mode) {j : Nat} (hj : j ≤ n) :
    (s.sigma j).DirectiveStands ∧ PwmAgree (s.sigma j) (s.pwmAlone j) := by
  induction j with
  | zero => exact ⟨hstands, .refl s⟩
  | succ j ih =>
    obtain ⟨hstandsj, hagree⟩ := ih (by omega)
    have hp := por_sigma s n j hpow hj
    have hsame : (s.sigma j).next.mode = (s.sigma j).mode := (hmode _ hj).trans (hmode j (by omega)).symm
    exact ⟨next_directiveStands (h.sigma j) hstandsj hp hsame,
      (next_pwmAgree (h.sigma j) hstandsj hp).trans hagree.pwmRun⟩

/-! The PWM unit run alone. -/

theorem pwmAlone_of_disabled {s : State} (hen : s.pwmEn = false) (n : Nat) : s.pwmAlone n = s := by
  induction n with
  | zero => rfl
  | succ n ih => rw [State.pwmAlone, ih, pwmRun_of_disabled hen]

theorem pwmAlone_kept (s : State) (n : Nat) :
    (s.pwmAlone n).pwmEn = s.pwmEn ∧ (s.pwmAlone n).pwmCmpBuf = s.pwmCmpBuf ∧
      (s.pwmAlone n).ledForce = s.ledForce := by
  induction n with
  | zero => exact ⟨rfl, rfl, rfl⟩
  | succ n ih => simpa [State.pwmAlone] using ih

/-- In a driving mode the self-test is over. -/
theorem State.Inv.ledForce_of_driving {s : State} (h : s.Inv) (hm : s.mode ≠ .off) : s.ledForce = false := by
  rw [h.led, beq_eq_false_iff_ne]
  intro hq
  have hmode := h.mode
  simp [hq, modeFitsAt, hm] at hmode

end Sys2Proof.Machine

open Sys2Proof Sys2Proof.Machine in
/-- Settles O47: at S_POLL the directive of the mode stands, and every tick that keeps the mode keeps it standing and
does to the PWM unit what the free-running update does; in Off that update changes nothing. -/
theorem directiveIsIdempotent : Obligations.DirectiveIsIdempotent := by
  refine ⟨fun s n hinv hq hm hpow hmode => ?_, fun s n hinv hq hm hpow hmode r hr => ?_⟩
  · have hstands := hinv.directiveStands_of_poll hq
    obtain ⟨-, hagree⟩ := sigma_pwmAgree hinv hstands hpow hmode le_rfl
    obtain ⟨hen, hbuf, hforce⟩ := pwmAlone_kept s n
    have hforce' : (s.sigma n).ledForce = (s.pwmAlone n).ledForce := by
      rw [hforce, hinv.ledForce_of_driving hm, (hinv.sigma n).ledForce_of_driving (by rwa [hmode n le_rfl])]
    exact ⟨by rw [hagree.en, hen, hstands.en.mpr hm], hagree.buf.trans hbuf, hagree.pre, hagree.cnt, hagree.cmp,
      hagree.led_eq hforce'⟩
  · have hstands := hinv.directiveStands_of_poll hq
    have hen : s.pwmEn = false := by simpa [hm] using hstands.en
    obtain ⟨-, hagree⟩ := sigma_pwmAgree hinv hstands hpow (fun j hj => (hmode j hj).trans hm.symm) le_rfl
    rw [pwmAlone_of_disabled hen] at hagree
    exact hagree.read_eq hr

end

section
/-! PROOF. The PWM operations one tick at a time (42_pwm.md R150, R151, R153): their isolation, PWM_ENABLE and
SET_DUTY. -/

open Sys2Proof Sys2Proof.Machine in
/-- Settles O29: the frame comes from the ownership table of 10_state.md R42, in both directions. -/
theorem pwmIsolation : Obligations.PwmIsolation := by
  refine ⟨fun i s t hi h => ⟨fun r hr hbg => ?_, sampled_exec h, flagSetOrKept_exec h ?_⟩,
    fun i s t hen hdis hset h => ⟨pwmRan_exec h hen hdis, pwmEn_exec h hen hdis, pwmCmpBuf_exec h hset⟩⟩
  · refine read_exec_of_not_owned h (ownedBy_of_not_mem_pwmRegs hi hr) ?_
    simp only [pwmRegs, backgroundRegs, List.mem_cons, List.not_mem_nil, or_false, not_or] at hr hbg ⊢
    tauto
  · obtain rfl | rfl | ⟨v, rfl⟩ := hi <;> simp

open Sys2Proof Sys2Proof.Machine in
/-- Settles O8: on a stopped PWM the writes of PWM_ENABLE, on a running one the free-running update alone. -/
theorem pwmEnableStartsFreshPeriod : Obligations.PwmEnableStartsFreshPeriod := by
  refine ⟨rfl, issuedAt_pwmEnable, fun s => ?_⟩
  obtain ⟨t, h⟩ := exec_answers .pwmEnable s
  refine ⟨t, h, sampled_exec h, flagSetOrKept_exec h (by simp), fun hen => ?_, fun hen => ?_, fun hq => ?_⟩
  · obtain ⟨hen', hpre, hcnt, hcmp⟩ := exec_pwmEnable_of_disabled h hen
    refine ⟨hen', hpre, hcnt, hcmp, kept_exec_pwmEnable h, ?_⟩
    simp [State.pwmOut, hen', hcnt, hcmp, Nat.pos_iff_ne_zero, BitVec.toNat_eq]
  · exact ⟨(exec_pwmEnable_of_enabled h hen).2, kept_exec_pwmEnable_of_enabled h hen⟩
  · rw [exec_seq _ _ _ h, hq]
    rfl

open Sys2Proof Sys2Proof.Machine in
/-- Settles O10: SET_DUTY owns the buffer alone, and PWM_CMP is left to the latch of the free-running update, which
reads the buffer as it was before the tick. -/
theorem setDutyWritesBufferOnly : Obligations.SetDutyWritesBufferOnly := by
  refine ⟨fun v => toNat_encode (.setDuty v), op_eq_setDuty_iff, fun v s => ?_⟩
  obtain ⟨t, h⟩ := exec_answers (.setDuty v) s
  have hbg : Background s t := background_exec h (by simp) (by simp) (by simp)
  have hcmp : t.pwmCmp = if s.pwmWraps then s.pwmCmpBuf else s.pwmCmp := hbg.pwm.cmp.trans (pwmRun_cmp_eq s)
  refine ⟨t, h, ?_, hbg, ?_, fun hw => ?_, fun hw => ?_, fun hq => ?_⟩
  · cases h; rfl
  · exact kept_exec h fun r hown _ => by simp [(ownedBy_setDuty_iff r v).mp hown]
  · simp [hcmp, hw]
  · simp [hcmp, hw]
  · rw [exec_seq _ _ _ h, hq]
    rfl

end

section
/-! PROOF. The Power Controller (43_power.md): the order of the wake protocol (R193), and the operations that write one
register of it: BG_START, BG_STOP, BG_RESTART, REQ_SLEEP, CLI, SEI and CLR_WAKE_FLAG. -/

namespace Sys2Proof.Machine

/-! The chain of the wake protocol in the successor table: the sequencer states from S_ARM (code 13) on (R193). -/

/-- How the chain goes on: a wait stays, SELECT skips the teardown when it is not taken, S_WAKE_SEI leaves, and every
other transition is to the next code. -/
theorem chain_successor_cases {q : Seq} (sig : Signals) (hq : 13 ≤ q.code.toNat) :
    (successor q sig = q ∧ (q = .sSleep ∨ q = .sWakeup)) ∨ (successor q sig).code.toNat = q.code.toNat + 1 ∨
    (q = .sSelect ∧ sig.taken = false ∧ successor q sig = .sSleep) ∨ (q = .sWakeSei ∧ successor q sig = .sPoll) := by
  obtain ⟨done, taken⟩ := sig
  revert hq
  cases q <;> cases done <;> cases taken <;> decide

/-- The chain is entered from the two REQ_SLEEP states only, and so at S_ARM. -/
theorem successor_eq_arm_of_enters_chain {q : Seq} {sig : Signals} (hq : q.code.toNat < 13)
    (hnext : 13 ≤ (successor q sig).code.toNat) : successor q sig = .sArm := by
  have hsettled : depthSettledAt (successor q sig) = true := decide_eq_true hnext
  rcases of_depthSettledAt_successor hsettled with rfl | rfl | ⟨-, -, -, hin⟩
  · rfl
  · rfl
  · exact absurd (of_decide_eq_true hin) (Nat.not_le.mpr hq)

/-! Who issues the operations (30_encoding.md R84). -/

theorem issuedAt_bgStart : IssuedAt .bgStart .sBootBg := by
  intro s; cases hq : s.seq <;> simp [State.op, hq]

theorem issuedAt_bgStop : IssuedAt .bgStop .sDeepBg := by
  intro s; cases hq : s.seq <;> simp [State.op, hq]

theorem issuedAt_bgRestart : IssuedAt .bgRestart .sWakeBg := by
  intro s; cases hq : s.seq <;> simp [State.op, hq]

theorem issuedAt_reqSleep_deepest : IssuedAt (.reqSleep .deepest) .sOffReq := by
  intro s; cases hq : s.seq <;> simp [State.op, hq]

theorem issuedAt_reqSleep_idle : IssuedAt (.reqSleep .idle) .sOnReq := by
  intro s; cases hq : s.seq <;> simp [State.op, hq]

theorem issuedAt_cli : IssuedAt .cli .sWakeCli := by
  intro s; cases hq : s.seq <;> simp [State.op, hq]

theorem issuedAt_clrWakeFlag : IssuedAt .clrWakeFlag .sWakeClrf := by
  intro s; cases hq : s.seq <;> simp [State.op, hq]

theorem op_eq_sei_iff (s : State) : s.op = .sei ↔ s.seq = .sWakeSei ∨ s.seq = .sBootSei := by
  cases hq : s.seq <;> simp [State.op, hq]

/-! What the operations own (10_state.md R42). -/

theorem eq_bgRun_of_owned {i : Instr} (hi : i = .bgStart ∨ i = .bgStop ∨ i = .bgRestart) {r : Reg}
    (hown : ownedBy r i = true) : r = .bgRun := by
  revert hown
  obtain rfl | rfl | rfl := hi <;> cases r <;> decide

theorem eq_gie_of_owned {i : Instr} (hi : i = .cli ∨ i = .sei) {r : Reg} (hown : ownedBy r i = true) : r = .gie := by
  revert hown
  obtain rfl | rfl := hi <;> cases r <;> decide

theorem eq_pstate_of_owned {d : Depth} {r : Reg} (hown : ownedBy r (.reqSleep d) = true) : r = .pstate := by
  cases r <;> simp [ownedBy] at hown ⊢

theorem eq_pcif_of_owned {r : Reg} (hown : ownedBy r .clrWakeFlag = true) : r = .pcif := by
  revert hown
  cases r <;> decide

section Exec

variable {i : Instr} {s t : State}

/-- The frame of an operation that owns one register. -/
theorem kept_exec_of_owns_one {r : Reg} (h : exec i s = .next t) (hone : ∀ r', ownedBy r' i = true → r' = r) :
    Kept s t [r] :=
  kept_exec h fun r' hown _ => List.mem_singleton.mpr (hone r' hown)

/-- CLR_WAKE_FLAG owns PCIF alone, which every tick writes. -/
theorem kept_exec_clrWakeFlag (h : exec .clrWakeFlag s = .next t) : Kept s t [] :=
  kept_exec h fun r hown hbg => absurd (by rw [eq_pcif_of_owned hown]; decide) hbg

/-! The values that the operations write. -/

theorem exec_bgStart_bgRun (h : exec .bgStart s = .next t) : t.bgRun = true := by cases h; rfl

theorem exec_bgStop_bgRun (h : exec .bgStop s = .next t) : t.bgRun = false := by cases h; rfl

/-- BG_RESTART starts the timer again only after deepest sleep (R186). -/
theorem exec_bgRestart_bgRun (h : exec .bgRestart s = .next t) :
    t.bgRun = if s.pstate = .deepest then true else s.bgRun := by
  obtain rfl := eq_tick_of_exec h
  simp [State.writes]

theorem exec_reqSleep_pstate {d : Depth} (h : exec (.reqSleep d) s = .next t) : t.pstate = d := by cases h; rfl

theorem exec_cli_gie (h : exec .cli s = .next t) : t.gie = false := by cases h; rfl

theorem exec_sei_gie (h : exec .sei s = .next t) : t.gie = true := by cases h; rfl

/-- After CLR_WAKE_FLAG the flag is what the detector sets in the same tick (R190, 20_memory.md R65 (b)). -/
theorem exec_clrWakeFlag_pcif (h : exec .clrWakeFlag s = .next t) : t.pcif = (s.pcie && s.edge) := by cases h; rfl

end Exec

end Sys2Proof.Machine

open Sys2Proof Sys2Proof.Machine in
/-- Settles O50: a tick moves SEQ by the successor table, and SELECT is not taken exactly at idle depth. -/
theorem wakeProtocolOrder : Obligations.WakeProtocolOrder := by
  refine ⟨fun s hp hq => ?_, fun s hp hq hnext => ?_, fun s => ?_⟩
  · rw [next_seq s hp]
    rcases chain_successor_cases (s.signals s.op) hq with
      ⟨hstay, hwait⟩ | hstep | ⟨hsel, htaken, hsleep⟩ | ⟨hsei, hpoll⟩
    · exact .inl ⟨by rw [hstay], hwait⟩
    · exact .inr (.inl hstep)
    · have hidle : s.pstate = .idle := by
        cases hd : s.pstate
        · rfl
        · simp [signals_of_select hsel, hd] at htaken
      exact .inr (.inr (.inl ⟨hsel, hidle, hsleep⟩))
    · exact .inr (.inr (.inr ⟨hsei, hpoll⟩))
  · rw [next_seq s hp] at hnext ⊢
    exact successor_eq_arm_of_enters_chain hq hnext
  · refine ⟨?_, ?_, ?_, ?_, ?_, ?_, ?_, ?_, ?_, ?_, ?_⟩ <;> intro hq <;> rw [State.op, hq]

open Sys2Proof Sys2Proof.Machine in
/-- Settles O1: the three operations own BG_RUN alone, and the port bg_run shows it. -/
theorem timerControlsDriveBgRun : Obligations.TimerControlsDriveBgRun := by
  refine ⟨⟨rfl, issuedAt_bgStart, fun s => ?_⟩, ⟨rfl, issuedAt_bgStop, fun s => ?_⟩,
    rfl, issuedAt_bgRestart, fun s => ?_⟩
  · obtain ⟨t, h⟩ := exec_answers .bgStart s
    have hrun := exec_bgStart_bgRun h
    exact ⟨t, h, hrun, hrun, background_exec h (by simp) (by simp) (by simp),
      kept_exec_of_owns_one h fun _ => eq_bgRun_of_owned (by simp), fun hq => by rw [exec_seq _ _ _ h, hq]; rfl⟩
  · obtain ⟨t, h⟩ := exec_answers .bgStop s
    have hrun := exec_bgStop_bgRun h
    exact ⟨t, h, hrun, hrun, background_exec h (by simp) (by simp) (by simp),
      kept_exec_of_owns_one h fun _ => eq_bgRun_of_owned (by simp), fun hq => by rw [exec_seq _ _ _ h, hq]; rfl⟩
  · obtain ⟨t, h⟩ := exec_answers .bgRestart s
    exact ⟨t, h, exec_bgRestart_bgRun h, background_exec h (by simp) (by simp) (by simp),
      kept_exec_of_owns_one h fun _ => eq_bgRun_of_owned (by simp), fun hq => by rw [exec_seq _ _ _ h, hq]; rfl⟩

open Sys2Proof Sys2Proof.Machine in
/-- Settles O11: REQ_SLEEP owns PSTATE alone, and both states that issue it go to S_ARM. -/
theorem reqSleepRecordsDepth : Obligations.ReqSleepRecordsDepth := by
  refine ⟨fun d => ?_, issuedAt_reqSleep_deepest, issuedAt_reqSleep_idle, fun d s => ?_⟩
  · rw [toNat_encode, Instr.arg, d.toNat_zeroExtend_code]
    rfl
  · obtain ⟨t, h⟩ := exec_answers (.reqSleep d) s
    refine ⟨t, h, exec_reqSleep_pstate h, background_exec h (by simp) (by simp) (by simp),
      kept_exec_of_owns_one h fun _ => eq_pstate_of_owned, fun hq => ?_⟩
    rw [exec_seq _ _ _ h]
    rcases hq with hq | hq <;> rw [hq] <;> rfl

open Sys2Proof Sys2Proof.Machine in
/-- Settles O15: the two operations own GIE alone, and both states that issue SEI go to S_POLL. -/
theorem cliAndSeiWriteGie : Obligations.CliAndSeiWriteGie := by
  refine ⟨⟨rfl, issuedAt_cli, fun s => ?_⟩, rfl, op_eq_sei_iff, fun s => ?_⟩
  · obtain ⟨t, h⟩ := exec_answers .cli s
    exact ⟨t, h, exec_cli_gie h, background_exec h (by simp) (by simp) (by simp),
      kept_exec_of_owns_one h fun _ => eq_gie_of_owned (by simp), fun hq => by rw [exec_seq _ _ _ h, hq]; rfl⟩
  · obtain ⟨t, h⟩ := exec_answers .sei s
    refine ⟨t, h, exec_sei_gie h, background_exec h (by simp) (by simp) (by simp),
      kept_exec_of_owns_one h fun _ => eq_gie_of_owned (by simp), fun hq => ?_⟩
    rw [exec_seq _ _ _ h]
    rcases hq with hq | hq <;> rw [hq] <;> rfl

open Sys2Proof Sys2Proof.Machine in
/-- Settles O16: the close of the tick sets PCIF over the clear, from the pre-tick PCIE and the edge of this tick. -/
theorem clrWakeFlagLosesToEdge : Obligations.ClrWakeFlagLosesToEdge := by
  refine ⟨rfl, issuedAt_clrWakeFlag, fun s => ?_⟩
  obtain ⟨t, h⟩ := exec_answers .clrWakeFlag s
  refine ⟨t, h, ?_, sampled_exec h, pwmRan_exec h (by simp) (by simp), kept_exec_clrWakeFlag h, fun hq => ?_⟩
  · simp [exec_clrWakeFlag_pcif h, State.edge]
  · rw [exec_seq _ _ _ h, hq]
    rfl

end

section
/-! PROOF. The sequencer (44_sequencer.md) one tick at a time: the rows of the successor table that consult a condition
signal (R223), the boot operations SELFTEST_ON (R221) and SELFTEST_WAIT, and the expiry of the bounded waits (R222). -/

namespace Sys2Proof.Machine

/-! The rows of the successor table with a condition. That of S_POLL is `next_seq_of_poll`. -/

/-- A bounded wait goes on while DLY is above 1; the other successor is that of `done`. -/
theorem next_seq_of_boundedWait {s : State} (hq : boundedWaitAt s.seq = true) (hp : s.por = false) :
    s.next.seq = if 1 < s.dly then s.seq else successor s.seq {} := by
  by_cases hdly : 1 < s.dly
  · rw [if_pos hdly, (next_of_boundedWait hq hp hdly).1]
  · have hdone : s.countdownDone = true := by simpa [State.countdownDone] using hdly
    rw [if_neg hdly, next_seq s hp, signals_of_boundedWait hq, hdone]

theorem next_seq_of_dispatch {s : State} (hq : s.seq = .sDispatch) (hp : s.por = false) :
    s.next.seq = if s.mode = .off then .sOffPwm else .sOnPwm := by
  rw [next_seq s hp, signals_of_dispatch hq, hq]
  simp [successor]

theorem next_seq_of_select {s : State} (hq : s.seq = .sSelect) (hp : s.por = false) :
    s.next.seq = if s.pstate = .deepest then .sDeepBg else .sSleep := by
  rw [next_seq s hp, signals_of_select hq, hq]
  simp [successor]

theorem next_seq_of_sleep {s : State} (hq : s.seq = .sSleep) (hp : s.por = false) :
    s.next.seq = if s.wake then .sWakeup else .sSleep := by
  rw [next_seq s hp, signals_of_sleep hq, hq]
  rfl

/-- The wake condition (43_power.md R187): interrupts on, and an armed edge or a background tick at idle depth. -/
theorem wake_iff (s : State) :
    s.wake = true ↔ s.gie = true ∧
      ((s.pcie = true ∧ s.pcif = true) ∨ (s.pstate = .idle ∧ s.bgRun = true ∧ s.bgTick = true)) := by
  simp [State.wake, and_assoc]

/-! The boot operations. -/

theorem issuedAt_selftestOn : IssuedAt .selftestOn .sSelftestOn := by
  intro s; cases hq : s.seq <;> simp [State.op, hq]

theorem issuedAt_selftestWait : IssuedAt .selftestWait .sSelftestWt := by
  intro s; cases hq : s.seq <;> simp [State.op, hq]

theorem ledForce_or_dly_of_owned {i : Instr} (hi : i = .selftestOn ∨ i = .selftestWait) {r : Reg}
    (hown : ownedBy r i = true) : r = .ledForce ∨ r = .dly := by
  revert hown
  obtain rfl | rfl := hi <;> cases r <;> decide

section Exec

variable {s t : State}

theorem exec_selftestOn_writes (h : exec .selftestOn s = .next t) :
    t.ledForce = true ∧ t.dly = s.params.startupTicks := by
  cases h; exact ⟨rfl, rfl⟩

theorem exec_selftestWait_writes (h : exec .selftestWait s = .next t) :
    t.dly = s.countdownDly ∧ t.ledForce = if s.countdownDone then false else s.ledForce := by
  obtain rfl := eq_tick_of_exec h
  simp [State.writes]

theorem kept_exec_selftestWait (h : exec .selftestWait s = .next t) : Kept s t [.dly, .ledForce] :=
  kept_exec h fun r hown _ => by simpa using (ledForce_or_dly_of_owned (.inr rfl) hown).symm

/-- Before the expiry SELFTEST_WAIT leaves LED_FORCE as it was, so DLY is all it changes. -/
theorem kept_exec_selftestWait_of_waiting (h : exec .selftestWait s = .next t) (hdly : 1 < s.dly) :
    Kept s t [.dly] := by
  intro r hr hbg
  obtain ⟨-, hforce⟩ := exec_selftestWait_writes h
  by_cases hled : r = .ledForce
  · simp [hled, State.read, hforce, (countdownDone_eq_false_iff s).mpr hdly]
  · exact kept_exec_selftestWait h r (by simpa [hled] using hr) hbg

/-- The successor of SELFTEST_WAIT in its own state. -/
theorem exec_selftestWait_seq (h : exec .selftestWait s = .next t) (hq : s.seq = .sSelftestWt) :
    t.seq = if 1 < s.dly then .sSelftestWt else .sBootSei := by
  rw [exec_seq _ _ _ h, hq]
  by_cases hdly : 1 < s.dly <;> simp [State.signals, successor, State.countdownDone, hdly]

end Exec

/-! The expiry of a bounded wait. -/

/-- The last tick of a bounded wait clears DLY and leaves the state. -/
theorem next_of_boundedWait_expired {s : State} (hq : boundedWaitAt s.seq = true) (hp : s.por = false)
    (hdly : s.dly ≤ 1) : s.next.dly = 0 ∧ s.next.seq = successor s.seq {} := by
  rw [next_dly s hp, if_pos hq, State.countdownDly, next_seq_of_boundedWait hq hp, if_neg (Nat.not_lt.mpr hdly),
    if_neg (Nat.not_lt.mpr hdly)]
  exact ⟨rfl, rfl⟩

/-- A bounded wait is over after as many ticks as DLY says. -/
theorem sigma_of_boundedWait_expired {s : State} (hq : boundedWaitAt s.seq = true) (hpow : s.Powered s.dly)
    (hdly : 1 ≤ s.dly) : (s.sigma s.dly).dly = 0 ∧ (s.sigma s.dly).seq = successor s.seq {} := by
  have hlast : s.dly - 1 < s.dly := by omega
  obtain ⟨hseq, hone⟩ := sigma_of_boundedWait hq hpow hlast
  have hexp := next_of_boundedWait_expired (by rwa [hseq]) (por_sigma s _ _ hpow hlast) (by omega)
  rw [hseq] at hexp
  rw [← Nat.sub_add_cancel hdly]
  exact hexp

/-- At the end of the self-test the LED is released. -/
theorem sigma_ledForce_of_selftestWt {s : State} (hq : s.seq = .sSelftestWt) (hpow : s.Powered s.dly)
    (hdly : 1 ≤ s.dly) : (s.sigma s.dly).ledForce = false := by
  have hlast : s.dly - 1 < s.dly := by omega
  obtain ⟨hseq, hone⟩ := sigma_of_boundedWait (by rw [hq]; rfl) hpow hlast
  have hdone : (s.sigma (s.dly - 1)).countdownDone = true := by
    rw [State.countdownDone, hone]; simp; omega
  rw [← Nat.sub_add_cancel hdly, State.sigma, next_ledForce _ (por_sigma s _ _ hpow hlast), hseq, hq]
  simp [hdone]

end Sys2Proof.Machine

open Sys2Proof Sys2Proof.Machine in
/-- Settles O27: the rows with a condition are lemmas of their own, and in every other row the table has one entry. -/
theorem successorTable : Obligations.SuccessorTable := by
  intro s hp
  cases hq : s.seq
  case sSelftestWt => rw [next_seq_of_boundedWait (by rw [hq]; rfl) hp, hq]; rfl
  case sPoll => rw [next_seq_of_poll hq hp]; cases s.btn <;> rfl
  case sDebounce => rw [next_seq_of_boundedWait (by rw [hq]; rfl) hp, hq]; rfl
  case sDispatch => exact next_seq_of_dispatch hq hp
  case sSelect => exact next_seq_of_select hq hp
  case sSleep => simp only [next_seq_of_sleep hq hp, wake_iff]
  case sWakeup => rw [next_seq_of_boundedWait (by rw [hq]; rfl) hp, hq]; rfl
  all_goals rw [next_seq s hp, hq]; rfl

open Sys2Proof Sys2Proof.Machine in
/-- Settles O3: SELFTEST_WAIT owns DLY and LED_FORCE, the second at its expiry only; and a bounded wait runs down by
induction on its ticks, the last of which leaves it. -/
theorem selftestWaitCountsDown : Obligations.SelftestWaitCountsDown := by
  refine ⟨rfl, issuedAt_selftestWait, fun s => ?_, fun s n hwait hn hpos hpow => ?_⟩
  · obtain ⟨t, h⟩ := exec_answers .selftestWait s
    obtain ⟨hdly, hforce⟩ := exec_selftestWait_writes h
    have hseq := exec_selftestWait_seq h
    refine ⟨t, h, background_exec h (by simp) (by simp) (by simp), fun hgo => ?_, fun hend => ?_⟩
    · simp only [if_pos hgo] at hseq
      exact ⟨by rw [hdly, State.countdownDly, if_pos hgo], kept_exec_selftestWait_of_waiting h hgo, hseq⟩
    · simp only [if_neg (Nat.not_lt.mpr hend)] at hseq
      refine ⟨by rw [hdly, State.countdownDly, if_neg (Nat.not_lt.mpr hend)], ?_, kept_exec_selftestWait h, hseq⟩
      rw [hforce, State.countdownDone]
      simp [hend]
  · subst hn
    obtain ⟨hzero, hseq⟩ := sigma_of_boundedWait_expired hwait hpow hpos
    refine ⟨fun j => sigma_of_boundedWait hwait hpow, hzero, fun hq => ⟨?_, ?_⟩, fun hq => ?_, fun hq => ?_⟩
    · rw [hseq, hq]; rfl
    · exact sigma_ledForce_of_selftestWt hq hpow hpos
    · rw [hseq, hq]; rfl
    · rw [hseq, hq]; rfl

open Sys2Proof Sys2Proof.Machine in
/-- Settles O2: SELFTEST_ON owns LED_FORCE and DLY, and a forced LED is high whatever the PWM does. -/
theorem selftestOnForcesLed : Obligations.SelftestOnForcesLed := by
  refine ⟨rfl, issuedAt_selftestOn, fun s => ?_⟩
  obtain ⟨t, h⟩ := exec_answers .selftestOn s
  obtain ⟨hforce, hdly⟩ := exec_selftestOn_writes h
  refine ⟨t, h, hforce, hdly, by simp [State.led, hforce], background_exec h (by simp) (by simp) (by simp),
    kept_exec h fun r hown _ => by simpa using ledForce_or_dly_of_owned (.inl rfl) hown, fun hq => ?_⟩
  rw [exec_seq _ _ _ h, hq]
  rfl

end

section
/-! PROOF. One iteration of the sequencer, from S_POLL to S_POLL (44_sequencer.md): it sleeps once and wakes once
(R226), and its length (R229). -/

namespace Sys2Proof.Machine

/-! The codes of S_POLL (4) and of the states after it grow along an iteration, and S_SLEEP (17) and S_WAKEUP (18) are
not skipped. -/

theorem code_le_code_successor {q : Seq} {sig : Signals} (h : successor q sig ≠ .sPoll) :
    q.code.toNat ≤ (successor q sig).code.toNat := by
  obtain ⟨done, taken⟩ := sig
  revert h
  cases q <;> cases done <;> cases taken <;> decide

theorem code_successor_le {q : Seq} {sig : Signals} {v : Nat} (hv : v = 17 ∨ v = 18) (h : q.code.toNat < v) :
    (successor q sig).code.toNat ≤ v := by
  obtain ⟨done, taken⟩ := sig
  revert h
  obtain rfl | rfl := hv <;> cases q <;> cases done <;> cases taken <;> decide

/-- S_POLL is entered from the end of boot and from the end of the wake protocol. -/
theorem of_successor_eq_poll {q : Seq} {sig : Signals} (h : successor q sig = .sPoll) :
    q = .sBootSei ∨ q = .sWakeSei := by
  obtain ⟨done, taken⟩ := sig
  revert h
  cases q <;> cases done <;> cases taken <;> decide

theorem eq_sleep_iff_code (q : Seq) : q = .sSleep ↔ q.code.toNat = 17 := by cases q <;> decide

theorem eq_wakeup_iff_code (q : Seq) : q = .sWakeup ↔ q.code.toNat = 18 := by cases q <;> decide

/-- A value that a growing sequence passes: it is below the value up to some index, and not after it. -/
theorem exists_last_lt {f : Nat → Nat} {m v : Nat} (hmono : MonotoneOn f (Set.Iic m)) (hzero : f 0 < v)
    (hreach : v ≤ f m) : ∃ a, a < m ∧ f a < v ∧ ∀ j, j ≤ m → (v ≤ f j ↔ a < j) := by
  have hex : ∃ j, v ≤ f j := ⟨m, hreach⟩
  have hpos : 0 < Nat.find hex := (Nat.find_pos hex).mpr (Nat.not_le.mpr hzero)
  have hle : Nat.find hex ≤ m := Nat.find_min' hex hreach
  refine ⟨Nat.find hex - 1, by omega, Nat.not_le.mp (Nat.find_min hex (by omega)), fun j hj =>
    ⟨fun hv => ?_, fun ha => ?_⟩⟩
  · have := Nat.find_min' hex hv
    omega
  · exact (Nat.find_spec hex).trans (hmono hle hj (by omega))

/-- The code of SEQ, n clock edges on. -/
def State.codeAt (s : State) (n : Nat) : Nat := (s.sigma n).seq.code.toNat

section Iteration

variable {s : State} {m : Nat} (hpow : s.Powered m)
include hpow

theorem codeAt_succ {j : Nat} (hj : j < m) :
    s.codeAt (j + 1) = (successor (s.sigma j).seq ((s.sigma j).signals (s.sigma j).op)).code.toNat := by
  rw [State.codeAt, State.sigma, next_seq _ (por_sigma s m j hpow hj)]

theorem codeAt_monotoneOn (hno : ∀ j, j < m → (s.sigma (j + 1)).seq ≠ .sPoll) :
    MonotoneOn s.codeAt (Set.Iic m) := by
  refine monotoneOn_of_le_add_one Set.ordConnected_Iic fun j _ _ hj => ?_
  have hjm : j < m := Nat.lt_of_succ_le hj
  have hstep := hno j hjm
  rw [State.sigma, next_seq _ (por_sigma s m j hpow hjm)] at hstep
  rw [codeAt_succ hpow hjm]
  exact code_le_code_successor hstep

/-- The step from below S_SLEEP or S_WAKEUP does not go beyond it. -/
theorem codeAt_succ_le {j v : Nat} (hv : v = 17 ∨ v = 18) (hj : j < m) (h : s.codeAt j < v) :
    s.codeAt (j + 1) ≤ v := by
  rw [codeAt_succ hpow hj]
  exact code_successor_le hv h

end Iteration

/-- An iteration ends with S_WAKE_SEI. -/
theorem codeAt_last_of_iteration {s : State} {m : Nat} (hmono : MonotoneOn s.codeAt (Set.Iic m)) (hq : s.seq = .sPoll)
    (hp : (s.sigma m).por = false) (hend : (s.sigma (m + 1)).seq = .sPoll) : s.codeAt m = 23 := by
  have hge : 4 ≤ s.codeAt m := by
    calc 4 = s.codeAt 0 := by rw [State.codeAt, State.sigma, hq]; rfl
      _ ≤ s.codeAt m := hmono (Nat.zero_le m) (Set.mem_Iic.mpr le_rfl) (Nat.zero_le m)
  rw [State.sigma, next_seq _ hp] at hend
  rcases of_successor_eq_poll hend with hlast | hlast
  · rw [State.codeAt, hlast] at hge
    exact absurd hge (by decide)
  · rw [State.codeAt, hlast]
    rfl

/-! The parts of an iteration, tick by tick. -/

/-- One row of the successor table that consults no signal, in a powered run. -/
theorem sigma_seq_succ {s : State} {n j : Nat} (hpow : s.Powered n) (hj : j < n) {q q' : Seq}
    (hq : (s.sigma j).seq = q) (hrow : ∀ sig, successor q sig = q') : (s.sigma (j + 1)).seq = q' := by
  rw [State.sigma, next_seq _ (por_sigma s n j hpow hj), hq, hrow]

theorem sigma_fullbright {s : State} {n : Nat} (hpow : s.Powered n) : (s.sigma n).fullbright = s.fullbright := by
  induction n with
  | zero => rfl
  | succ n ih =>
    rw [State.sigma, next_fullbright _ (por_sigma s _ n hpow (by omega))]
    exact ih fun j hj => hpow j (by omega)

theorem sigma_mode_succ {s : State} {n j : Nat} (hpow : s.Powered n) (hj : j < n) {q : Seq}
    (hq : (s.sigma j).seq = q) (hadv : q ≠ .sAdvance) : (s.sigma (j + 1)).mode = (s.sigma j).mode := by
  rw [State.sigma, next_mode _ (por_sigma s n j hpow hj), hq, if_neg (fun hc => hadv hc.1)]

/-- From S_POLL the mode is advanced after the debounce time: none when the pin is high. -/
theorem sigma_dispatch_of_poll {s : State} {d : Nat} (hwf : s.params.wf = true) (hq : s.seq = .sPoll)
    (hd : d = if s.btn then 0 else s.params.debounceTicks) (hpow : s.Powered (d + 2)) :
    (s.sigma (d + 2)).seq = .sDispatch := by
  obtain ⟨hhigh, hlow, -⟩ := pollButtonContract
  have hadv : (s.sigma (d + 1)).seq = .sAdvance := by
    cases hb : s.btn <;> simp only [hb] at hd <;> subst hd
    · obtain ⟨-, hadv, -⟩ := hlow s hwf hq (fun j hj => hpow j (Nat.lt_succ_of_lt hj)) hb
      exact hadv
    · obtain ⟨hadv, -⟩ := hhigh s hq (hpow 0 (by omega)) hb
      exact hadv
  exact sigma_seq_succ hpow (by omega) hadv fun _ => rfl

theorem not_req_of_depthSettledAt {q : Seq} (h : depthSettledAt q = true) : q ≠ .sOffReq ∧ q ≠ .sOnReq := by
  revert h
  cases q <;> decide

/-- The depth is not requested again between S_ARM and the end of the wake protocol. -/
theorem sigma_pstate_succ {s : State} {n j : Nat} (hpow : s.Powered n) (hj : j < n) {q : Seq}
    (hq : (s.sigma j).seq = q) (hset : depthSettledAt q = true) : (s.sigma (j + 1)).pstate = (s.sigma j).pstate := by
  obtain ⟨hoff, hon⟩ := not_req_of_depthSettledAt hset
  rw [State.sigma, next_pstate _ (por_sigma s n j hpow hj), hq, if_neg hoff, if_neg hon]

/-- From S_DISPATCH in Off to deepest sleep: seven ticks, by the teardown path. -/
theorem sigma_of_dispatch_off {s : State} (hq : s.seq = .sDispatch) (hm : s.mode = .off) (hpow : s.Powered 7) :
    (s.sigma 1).seq = .sOffPwm ∧ (s.sigma 3).seq = .sArm ∧ (s.sigma 5).seq = .sDeepBg ∧
      (s.sigma 6).seq = .sDeepPwm ∧ (s.sigma 7).seq = .sSleep ∧ (s.sigma 7).pstate = .deepest := by
  have hpor (j : Nat) (hj : j < 7) := por_sigma s 7 j hpow hj
  have hpwm : (s.sigma 1).seq = .sOffPwm := (next_seq_of_dispatch hq (hpor 0 (by omega))).trans (if_pos hm)
  have hreq : (s.sigma 2).seq = .sOffReq := sigma_seq_succ hpow (by omega) hpwm fun _ => rfl
  have harm : (s.sigma 3).seq = .sArm := sigma_seq_succ hpow (by omega) hreq fun _ => rfl
  have hsel : (s.sigma 4).seq = .sSelect := sigma_seq_succ hpow (by omega) harm fun _ => rfl
  have hdepth3 : (s.sigma 3).pstate = .deepest := (next_pstate _ (hpor 2 (by omega))).trans (if_pos hreq)
  have hdepth4 := (sigma_pstate_succ hpow (by omega) harm rfl).trans hdepth3
  have hbg : (s.sigma 5).seq = .sDeepBg := (next_seq_of_select hsel (hpor 4 (by omega))).trans (if_pos hdepth4)
  have hdis : (s.sigma 6).seq = .sDeepPwm := sigma_seq_succ hpow (by omega) hbg fun _ => rfl
  have hsleep : (s.sigma 7).seq = .sSleep := sigma_seq_succ hpow (by omega) hdis fun _ => rfl
  have hdepth5 := (sigma_pstate_succ hpow (by omega) hsel rfl).trans hdepth4
  have hdepth6 := (sigma_pstate_succ hpow (by omega) hbg rfl).trans hdepth5
  have hdepth7 := (sigma_pstate_succ hpow (by omega) hdis rfl).trans hdepth6
  exact ⟨hpwm, harm, hbg, hdis, hsleep, hdepth7⟩

/-- From S_DISPATCH in a driving mode to idle sleep: six ticks. -/
theorem sigma_of_dispatch_driving {s : State} (hq : s.seq = .sDispatch) (hm : s.mode ≠ .off) (hpow : s.Powered 6) :
    (s.sigma 1).seq = .sOnPwm ∧ (s.sigma 2).op = .setDuty (duty s.mode s.fullbright) ∧ (s.sigma 4).seq = .sArm ∧
      (s.sigma 5).seq = .sSelect ∧ (s.sigma 6).seq = .sSleep ∧ (s.sigma 6).pstate = .idle := by
  have hpor (j : Nat) (hj : j < 6) := por_sigma s 6 j hpow hj
  have hpwm : (s.sigma 1).seq = .sOnPwm := (next_seq_of_dispatch hq (hpor 0 (by omega))).trans (if_neg hm)
  have hduty : (s.sigma 2).seq = .sOnDuty := sigma_seq_succ hpow (by omega) hpwm fun _ => rfl
  have hmode1 : (s.sigma 1).mode = s.mode := sigma_mode_succ hpow (by omega) hq (by decide)
  have hmode2 := (sigma_mode_succ hpow (by omega) hpwm (by decide)).trans hmode1
  have hreq : (s.sigma 3).seq = .sOnReq := sigma_seq_succ hpow (by omega) hduty fun _ => rfl
  have harm : (s.sigma 4).seq = .sArm := sigma_seq_succ hpow (by omega) hreq fun _ => rfl
  have hsel : (s.sigma 5).seq = .sSelect := sigma_seq_succ hpow (by omega) harm fun _ => rfl
  have hdepth4 : (s.sigma 4).pstate = .idle := (next_pstate _ (hpor 3 (by omega))).trans (by simp [hreq])
  have hdepth5 := (sigma_pstate_succ hpow (by omega) harm rfl).trans hdepth4
  have hsleep : (s.sigma 6).seq = .sSleep := (next_seq_of_select hsel (hpor 5 (by omega))).trans (by simp [hdepth5])
  have hdepth6 := (sigma_pstate_succ hpow (by omega) hsel rfl).trans hdepth5
  refine ⟨hpwm, (op_eq_setDuty_iff _ _).mpr ⟨hduty, ?_⟩, harm, hsel, hsleep, hdepth6⟩
  rw [hmode2, sigma_fullbright fun j hj => hpow j (by omega)]

section Sleep

variable {s : State} {k : Nat} (hq : s.seq = .sSleep) (hpow : s.Powered k)
  (hstay : ∀ j, j + 1 < k → (s.sigma j).wake = false)
include hq hpow hstay

/-- A sleep goes on, at its depth, for as long as the wake condition does not hold. -/
theorem sigma_of_sleep {j : Nat} (hj : j < k) : (s.sigma j).seq = .sSleep ∧ (s.sigma j).pstate = s.pstate := by
  induction j with
  | zero => exact ⟨hq, rfl⟩
  | succ j ih =>
    obtain ⟨hseq, hdepth⟩ := ih (by omega)
    refine ⟨?_, (sigma_pstate_succ hpow (by omega) hseq rfl).trans hdepth⟩
    rw [State.sigma, next_seq_of_sleep hseq (por_sigma s k j hpow (by omega)), hstay j hj]
    rfl

/-- The tick in which the wake condition holds is the last one in S_SLEEP, and loads the wake latency (R187). -/
theorem sigma_wakeup_of_sleep (hk : 1 ≤ k) (hwake : (s.sigma (k - 1)).wake = true) :
    (s.sigma k).seq = .sWakeup ∧ (s.sigma k).dly = s.params.wakeLatency s.pstate := by
  obtain ⟨hseq, hdepth⟩ := sigma_of_sleep hq hpow hstay (j := k - 1) (by omega)
  have hp := por_sigma s k (k - 1) hpow (by omega)
  rw [← Nat.sub_add_cancel hk, State.sigma, next_seq_of_sleep hseq hp, next_dly _ hp]
  simp [hseq, hwake, hdepth, boundedWaitAt]

end Sleep

/-- The wake protocol after the wake latency: five ticks (43_power.md R193). -/
theorem sigma_poll_of_wakeCli {s : State} (hq : s.seq = .sWakeCli) (hpow : s.Powered 5) : (s.sigma 5).seq = .sPoll := by
  have hclrf : (s.sigma 1).seq = .sWakeClrf := sigma_seq_succ hpow (by omega) hq fun _ => rfl
  have hdisarm : (s.sigma 2).seq = .sWakeDisarm := sigma_seq_succ hpow (by omega) hclrf fun _ => rfl
  have hbg : (s.sigma 3).seq = .sWakeBg := sigma_seq_succ hpow (by omega) hdisarm fun _ => rfl
  have hsei : (s.sigma 4).seq = .sWakeSei := sigma_seq_succ hpow (by omega) hbg fun _ => rfl
  exact sigma_seq_succ hpow (by omega) hsei fun _ => rfl

/-- From S_SLEEP to S_POLL: the ticks asleep, the wake latency of the depth, and the five ticks of the protocol. -/
theorem sigma_poll_of_sleep {s : State} {k l : Nat} (hq : s.seq = .sSleep) (hl : l = s.params.wakeLatency s.pstate)
    (hlpos : 1 ≤ l) (hk : 1 ≤ k) (hpow : s.Powered (k + l + 5))
    (hstay : ∀ j, j + 1 < k → (s.sigma j).wake = false) (hwake : (s.sigma (k - 1)).wake = true) :
    (s.sigma (k + l + 5)).seq = .sPoll := by
  obtain ⟨hup, hdly⟩ := sigma_wakeup_of_sleep hq (fun j hj => hpow j (by omega)) hstay hk hwake
  rw [← hl] at hdly
  have hwait : boundedWaitAt (s.sigma k).seq = true := by rw [hup]; rfl
  obtain ⟨-, hcli⟩ := sigma_of_boundedWait_expired hwait (powered_sigma s _ k _ hpow (by omega)) (by omega)
  rw [hdly, hup, ← sigma_add] at hcli
  rw [sigma_add]
  exact sigma_poll_of_wakeCli hcli (powered_sigma s _ _ _ hpow (by omega))

end Sys2Proof.Machine

open Sys2Proof Sys2Proof.Machine in
/-- Settles O56: between two polls the code of SEQ grows and passes 17 and 18 one at a time, so the ticks at 17 and at
18 are two stretches, one after the other. -/
theorem eachIterationSleepsOnce : Obligations.EachIterationSleepsOnce := by
  intro s n hq hn hpow hend hno
  obtain ⟨m, rfl⟩ : ∃ m, n = m + 1 := ⟨n - 1, by omega⟩
  have hpow' : s.Powered m := fun j hj => hpow j (by omega)
  have hmono := codeAt_monotoneOn hpow' fun j hj => hno (j + 1) (by omega) (by omega)
  have hzero : s.codeAt 0 = 4 := by rw [State.codeAt, State.sigma, hq]; rfl
  have hlast := codeAt_last_of_iteration hmono hq (por_sigma s _ m hpow (by omega)) hend
  obtain ⟨a, ham, ha, hsleep⟩ := exists_last_lt (v := 17) hmono (by omega) (by omega)
  obtain ⟨b, hbm, hb, hwakeup⟩ := exists_last_lt (v := 18) hmono (by omega) (by omega)
  obtain ⟨c, hcm, -, hcli⟩ := exists_last_lt (v := 19) hmono (by omega) (by omega)
  have hab : a < b := by
    have := codeAt_succ_le hpow' (.inl rfl) ham ha
    have := hwakeup (a + 1) ham
    omega
  have hbc : b < c := by
    have := codeAt_succ_le hpow' (.inr rfl) hbm hb
    have := hcli (b + 1) hbm
    omega
  refine ⟨a + 1, b + 1, c + 1, by omega, by omega, by omega, by omega, fun j hj => ?_⟩
  rcases Nat.lt_or_eq_of_le hj with hlt | rfl
  · have hjm := Nat.le_of_lt_succ hlt
    rw [eq_sleep_iff_code, eq_wakeup_iff_code, ← State.codeAt]
    have := hsleep j hjm
    have := hwakeup j hjm
    have := hcli j hjm
    omega
  · simp only [hend, reduceCtorEq, false_iff]
    omega

open Sys2Proof Sys2Proof.Machine in
/-- Settles O57: the run is cut at S_DISPATCH and at the first tick of S_SLEEP; the stretch between them is that of the
mode, and the rest is the same in both but for the wake latency of the depth. -/
theorem iterationLength : Obligations.IterationLength := by
  intro s d k hwf hq hd
  obtain ⟨-, -, -, -, -, -, hidle, hdeep⟩ := s.params.wf_iff.mp hwf
  refine ⟨fun hm hk hpow hstay hwake => ?_, fun hm hk hpow hstay hwake => ?_⟩
  · have hdis := sigma_dispatch_of_poll hwf hq hd fun j hj => hpow j (by omega)
    obtain ⟨hpwm, harm, hbg, hteardown, hsleep, hdepth⟩ :=
      sigma_of_dispatch_off hdis hm (powered_sigma s _ _ _ hpow (by omega))
    simp only [← sigma_add, Nat.add_assoc, Nat.reduceAdd] at hpwm harm hbg hteardown hsleep hdepth
    have hpoll := sigma_poll_of_sleep hsleep (l := s.params.tWakeDeep) (by simp [hdepth, Params.wakeLatency])
      (hidle.trans hdeep) hk (powered_sigma s _ _ _ hpow (by omega))
      (fun j hj => by rw [← sigma_add]; exact hstay j hj) (by rwa [← sigma_add])
    refine ⟨by rw [State.op, hpwm], by rw [State.op, harm], by rw [State.op, hbg], by simp [hteardown], hsleep, ?_⟩
    rw [← sigma_add] at hpoll
    rwa [show d + 14 + k + s.params.tWakeDeep = d + 9 + (k + s.params.tWakeDeep + 5) by omega]
  · have hdis := sigma_dispatch_of_poll hwf hq hd fun j hj => hpow j (by omega)
    obtain ⟨hpwm, hduty, harm, hsel, hsleep, hdepth⟩ :=
      sigma_of_dispatch_driving hdis hm (powered_sigma s _ _ _ hpow (by omega))
    rw [sigma_fullbright fun j hj => hpow j (by omega)] at hduty
    simp only [← sigma_add, Nat.add_assoc, Nat.reduceAdd] at hpwm hduty harm hsel hsleep hdepth
    have hpoll := sigma_poll_of_sleep hsleep (l := s.params.tWakeIdle) (by simp [hdepth, Params.wakeLatency])
      hidle hk (powered_sigma s _ _ _ hpow (by omega))
      (fun j hj => by rw [← sigma_add]; exact hstay j hj) (by rwa [← sigma_add])
    refine ⟨by rw [State.op, hpwm], hduty, by rw [State.op, harm], by simp [hsel], hsleep, ?_⟩
    rw [← sigma_add] at hpoll
    rwa [show d + 13 + k + s.params.tWakeIdle = d + 8 + (k + s.params.tWakeIdle + 5) by omega]

end

section
/-! PROOF. Exceptions (60_exceptions.md): a step has no outcome but the next state (R260), and GIE masks both wake
sources (R265). -/

namespace Sys2Proof.Machine

/-- Neither kind of clock edge stops the block: a power-on reset answers the reset state, a tick what its operation
answers. -/
theorem step_eq_next (s : State) : step s = .next s.next := by
  rcases step_cases s with ⟨hp, hstep⟩ | ⟨hp, hstep⟩
  · rw [next_of_por s hp, hstep]
  · obtain ⟨t, hexec⟩ := exec_answers s.op s
    rw [next_of_exec s t hp hexec, hstep, hexec]

theorem run_succ_of_step {M : Host.Core} {s t : M.State} (hstep : M.step s = .next t) (n : Nat) :
    M.run (n + 1) s = M.run n t := by
  rw [Host.Core.run, hstep]

/-- The host's run of the machine is σ (00_scope.md R9). -/
theorem core_run_eq_sigma (s : State) (n : Nat) : Host.Core.run core n s = .next (s.sigma n) := by
  induction n generalizing s with
  | zero => rfl
  | succ n ih =>
    calc Host.Core.run core (n + 1) s
        = Host.Core.run core n s.next := run_succ_of_step (step_eq_next s) n
      _ = .next (s.next.sigma n) := ih s.next
      _ = .next (s.sigma (n + 1)) := by rw [sigma_next]

theorem wake_eq_false_of_masked {s : State} (hgie : s.gie = false) : s.wake = false := by
  simp [State.wake, hgie]

/-- The states in which interrupts are masked: boot up to the tick of SEI, and the wake steps after CLI up to the tick of
SEI (60_exceptions.md R265). -/
theorem gieAt_eq_false_iff (q : Seq) :
    gieAt q = false ↔
      q ∈ [.sBootBg, .sSelftestOn, .sSelftestWt, .sBootSei, .sWakeClrf, .sWakeDisarm, .sWakeBg, .sWakeSei] := by
  cases q <;> decide

end Sys2Proof.Machine

open Sys2Proof Sys2Proof.Machine in
/-- Settles O25: both kinds of clock edge answer a next state, and a run is an induction on its length. -/
theorem stepNeverStops : Obligations.StepNeverStops :=
  ⟨step_eq_next, core_run_eq_sigma⟩

open Sys2Proof Sys2Proof.Machine in
/-- Settles O54: GIE is a factor of the wake condition; in a run from reset the invariant ties GIE to the sequencer
state. -/
theorem globalMasking : Obligations.GlobalMasking := by
  refine ⟨fun s hgie => wake_eq_false_of_masked hgie, fun p ins e n hp => ?_⟩
  have hinv := sigma_resetWith_inv p ins e n hp
  rw [hinv.gie, gieAt_eq_false_iff]

end

section
/-! PROOF. The late response (70_reset_and_hazards.md R309): from an edge in deepest sleep through the wake protocol to
the poll, and from the poll in Off to the light. -/

namespace Sys2Proof.Machine

/-! A mode stands until ADVANCE. -/

theorem sigma_mode_of_no_advance {s : State} {n : Nat} (hpow : s.Powered n)
    (hadv : ∀ j, j < n → (s.sigma j).seq ≠ .sAdvance) : (s.sigma n).mode = s.mode := by
  induction n with
  | zero => rfl
  | succ n ih =>
    have hstep := sigma_mode_succ hpow (Nat.lt_succ_self n) rfl (hadv n (by omega))
    exact hstep.trans (ih (fun j hj => hpow j (by omega)) fun j hj => hadv j (by omega))

theorem ne_advance_of_code {q : Seq} (hq : 13 ≤ q.code.toNat) : q ≠ .sAdvance := by
  rintro rfl
  exact absurd hq (by decide)

/-! From S_SLEEP to S_POLL, stretch by stretch: asleep, the wake latency, the five ticks of the protocol. -/

/-- The steps of the wake protocol follow each other in the order of their codes (43_power.md R193). -/
theorem code_successor_of_wakeStep {q : Seq} (sig : Signals) (hlo : 19 ≤ q.code.toNat) (hhi : q.code.toNat < 23) :
    (successor q sig).code.toNat = q.code.toNat + 1 := by
  have hchain : 13 ≤ q.code.toNat := by omega
  rcases chain_successor_cases sig hchain with ⟨-, rfl | rfl⟩ | hnext | ⟨rfl, -⟩ | ⟨rfl, -⟩
  case inr.inl => exact hnext
  case inr.inr.inr => exact absurd hhi (by decide)
  all_goals exact absurd hlo (by decide)

theorem codeAt_of_wakeCli {s : State} (hq : s.seq = .sWakeCli) (hpow : s.Powered 4) {j : Nat} (hj : j ≤ 4) :
    s.codeAt j = 19 + j := by
  induction j with
  | zero => rw [State.codeAt, State.sigma, hq]; rfl
  | succ j ih =>
    have hcode : (s.sigma j).seq.code.toNat = 19 + j := ih (by omega)
    rw [codeAt_succ hpow (by omega), code_successor_of_wakeStep _ (by omega) (by omega), hcode, Nat.add_assoc]

section Wake

variable {s : State} {k l : Nat} (hq : s.seq = .sSleep) (hl : l = s.params.wakeLatency s.pstate) (hlpos : 1 ≤ l)
  (hk : 1 ≤ k) (hstay : ∀ j, j + 1 < k → (s.sigma j).wake = false) (hwake : (s.sigma (k - 1)).wake = true)
include hq hl hlpos hk hstay hwake

/-- S_WAKEUP lasts as long as the wake latency of the depth, and CLI follows (43_power.md R188). -/
theorem sigma_wakeup_stretch (hpow : s.Powered (k + l)) :
    (∀ j, k ≤ j → j < k + l → (s.sigma j).seq = .sWakeup) ∧ (s.sigma (k + l)).seq = .sWakeCli := by
  obtain ⟨hup, hdly⟩ := sigma_wakeup_of_sleep hq (fun j hj => hpow j (by omega)) hstay hk hwake
  rw [← hl] at hdly
  have hwait : boundedWaitAt (s.sigma k).seq = true := by rw [hup]; rfl
  have hpow' : (s.sigma k).Powered (s.sigma k).dly := powered_sigma s _ k _ hpow (by omega)
  refine ⟨fun j hkj hj => ?_, ?_⟩
  · obtain ⟨i, rfl⟩ := Nat.exists_eq_add_of_le hkj
    rw [sigma_add, (sigma_of_boundedWait hwait hpow' (by omega)).1, hup]
  · obtain ⟨-, hcli⟩ := sigma_of_boundedWait_expired hwait hpow' (by omega)
    rw [hdly, hup, ← sigma_add] at hcli
    exact hcli

/-- From S_SLEEP to the poll the sequencer does not pass S_ADVANCE, so the mode stands. -/
theorem sigma_mode_of_sleep_to_poll (hpow : s.Powered (k + l + 5)) : (s.sigma (k + l + 5)).mode = s.mode := by
  refine sigma_mode_of_no_advance hpow fun j hj => ne_advance_of_code ?_
  obtain ⟨hup, hcli⟩ := sigma_wakeup_stretch hq hl hlpos hk hstay hwake fun j hj => hpow j (by omega)
  by_cases hjk : j < k
  · rw [(sigma_of_sleep hq (fun j hj => hpow j (by omega)) hstay hjk).1]
    decide
  by_cases hjl : j < k + l
  · rw [hup j (by omega) hjl]
    decide
  · obtain ⟨i, rfl⟩ := Nat.exists_eq_add_of_le (Nat.not_lt.mp hjl)
    have hcode := codeAt_of_wakeCli hcli (powered_sigma s _ _ _ hpow (by omega)) (j := i) (by omega)
    rw [sigma_add, ← State.codeAt, hcode]
    omega

end Wake

/-! The edge in deepest sleep. -/

/-- In deepest sleep a recorded edge is the only wake source (43_power.md R187). -/
theorem wake_eq_false_of_deepest {s : State} (hd : s.pstate = .deepest) (hflag : s.pcif = false) : s.wake = false := by
  simp [State.wake, hd, hflag]

/-- A recorded edge ends a sleep at any depth: asleep, PCIE and GIE are set (10_state.md R45 (e)). -/
theorem State.Inv.wake_of_flag {s : State} (h : s.Inv) (hq : s.seq = .sSleep) (hset : s.pcif = true) :
    s.wake = true := by
  obtain ⟨hpcie, hgie⟩ := h.facts.e_armed hq
  exact (wake_iff s).mpr ⟨hgie, .inl ⟨hpcie, hset⟩⟩

/-- The edge is recorded in its own tick, which is one more tick of sleep; it wakes in the next one. -/
theorem State.Inv.next_of_deepest_edge {s : State} (h : s.Inv) (hq : s.seq = .sSleep) (hd : s.pstate = .deepest)
    (hflag : s.pcif = false) (hp : s.por = false) (hedge : s.btn ≠ s.btnPrev) :
    s.next.pcif = true ∧ s.next.wake = true := by
  obtain ⟨hpcie, -⟩ := h.facts.e_armed hq
  have hset : s.next.pcif = true := by
    rw [next_pcif s hp]
    simp [hpcie, State.edge, hedge]
  have hsleep : s.next.seq = .sSleep := by
    rw [next_seq_of_sleep hq hp, wake_eq_false_of_deepest hd hflag]
    rfl
  exact ⟨hset, h.next.wake_of_flag hsleep hset⟩

/-! From the first sample to the directive. -/

/-- From the first low sample in Off: the debounce time, then ADVANCE, which turns the light on exactly when the second
sample is low too, and the directive of the new mode (41_button.md R132, 40_mode_fsm.md R111, R112). -/
theorem sigma_of_press_in_off {s : State} {d : Nat} (hwf : s.params.wf = true) (hq : s.seq = .sPoll)
    (hm : s.mode = .off) (hd : d = s.params.debounceTicks) (hpow : s.Powered (d + 3)) (hb : s.btn = false) :
    (s.sigma d).seq = .sDebounce ∧ (s.sigma (d + 1)).seq = .sAdvance ∧
      (s.sigma (d + 1)).pressed = !(s.inputAt d).btn ∧
      (s.sigma (d + 2)).mode = (if (s.inputAt d).btn then .off else .on) ∧
      (s.sigma (d + 3)).op = (if (s.inputAt d).btn then .pwmDisable else .pwmEnable) := by
  have hdpos : 1 ≤ d := hd ▸ Params.one_le_debounceTicks hwf
  obtain ⟨-, hlow, -⟩ := pollButtonContract
  obtain ⟨hwait, hadv, hsample⟩ := hlow s hwf hq (fun j hj => hpow j (by omega)) hb
  simp only [← hd] at hwait hadv hsample
  have hpressed : (s.sigma (d + 1)).pressed = !(s.inputAt d).btn := by
    rw [Bool.eq_iff_iff, hsample, Bool.not_eq_true']
  have hmode : (s.sigma (d + 1)).mode = .off := by
    refine (sigma_mode_of_no_advance (fun j hj => hpow j (by omega)) fun j hj => ?_).trans hm
    rcases Nat.eq_zero_or_pos j with rfl | hjpos
    · simp [State.sigma, hq]
    · simp [(hwait j hjpos (by omega)).1]
  have hdis : (s.sigma (d + 2)).seq = .sDispatch := sigma_seq_succ hpow (by omega) hadv fun _ => rfl
  have hnew : (s.sigma (d + 2)).mode = if (s.inputAt d).btn then .off else .on := by
    rw [State.sigma, next_mode _ (por_sigma s _ _ hpow (by omega)), hadv, hpressed, hmode]
    cases (s.inputAt d).btn <;> rfl
  have hdir := next_seq_of_dispatch hdis (por_sigma s _ _ hpow (by omega))
  refine ⟨(hwait d hdpos le_rfl).1, hadv, hpressed, hnew, ?_⟩
  rw [State.op, State.sigma, hdir, hnew]
  cases (s.inputAt d).btn <;> rfl

end Sys2Proof.Machine

open Sys2Proof Sys2Proof.Machine in
/-- Settles O60: the edge leaves two ticks of sleep, so the run to the poll is that of a sleep of two ticks; the mode
stands until then, and the press is confirmed or dropped by the level at the second sample. -/
theorem pressInDeepestSleepTurnsOn : Obligations.PressInDeepestSleepTurnsOn := by
  intro s p hinv hq hd hflag hedge hp hpow
  have hwf := hinv.inRange.params
  obtain ⟨-, -, -, -, -, -, hidle, hdeep⟩ := s.params.wf_iff.mp hwf
  obtain ⟨hset, hwake⟩ := hinv.next_of_deepest_edge hq hd hflag (hpow 0 (by omega)) hedge
  obtain ⟨-, -, hmode0⟩ := hinv.facts.f_deepest (.inl hq) hd
  have hl : s.params.tWakeDeep = s.params.wakeLatency s.pstate := by rw [hd]; rfl
  have hstay : ∀ j, j + 1 < 2 → (s.sigma j).wake = false := by
    intro j hj
    obtain rfl : j = 0 := by omega
    exact wake_eq_false_of_deepest hd hflag
  have hpow' : s.Powered (2 + s.params.tWakeDeep + 5) := fun j hj => hpow j (by omega)
  obtain rfl : p = 2 + s.params.tWakeDeep + 5 := by omega
  obtain ⟨hup, -⟩ := sigma_wakeup_stretch hq hl (by omega) (by omega) hstay hwake fun j hj => hpow' j (by omega)
  have hpoll := sigma_poll_of_sleep hq hl (by omega) (by omega) hpow' hstay hwake
  have hoff := (sigma_mode_of_sleep_to_poll hq hl (by omega) (by omega) hstay hwake hpow').trans hmode0
  refine ⟨hset, hwake, hup, hpoll, fun hb => ?_⟩
  obtain ⟨hdeb, hadv, hpressed, hmode, hdir⟩ := sigma_of_press_in_off (d := s.params.debounceTicks)
    (by rwa [sigma_params]) hpoll hoff (by rw [sigma_params]) (powered_sigma s _ _ _ hpow (by omega))
    (by rwa [State.btn, inputAt_sigma])
  simp only [inputAt_sigma, ← sigma_add, ← Nat.add_assoc] at hdeb hadv hpressed hmode hdir
  refine ⟨hdeb, hadv, fun hlow => ?_, fun hhigh => ?_⟩
  · exact ⟨by simp [hpressed, hlow], by simp [hmode, hlow], by simp [hdir, hlow]⟩
  · exact ⟨by simp [hpressed, hhigh], by simp [hmode, hhigh], by simp [hdir, hhigh]⟩

end

section
/-! PROOF. The boot order with the button released (70_reset_and_hazards.md R292): a block that no one has touched since
reset, what each tick does with it, and the timetable that its sequencer follows. -/

namespace Sys2Proof.Machine

/-! A block that has seen no press. -/

/-- What holds from reset on for as long as the pin stays high: Off, with the PWM stopped, and on the way to deepest
sleep, which it does not leave. -/
structure State.Untouched (s : State) : Prop where
  mode : s.mode = .off
  pwmEn : s.pwmEn = false
  pressed : s.pressed = false
  btnPrev : s.btnPrev = true
  pcif : s.pcif = false
  early : s.seq.code.toNat ≤ 17
  pstate : s.pstate = if depthSettledAt s.seq then .deepest else .idle

/-- The successor in an untouched block, once a bounded wait is over: POLL is not taken, DISPATCH and SELECT are, and
SLEEP goes on. -/
def untouchedSuccessor (q : Seq) : Seq := successor q { done := q != .sSleep, taken := q != .sPoll }

theorem code_untouchedSuccessor_le {q : Seq} (hq : q.code.toNat ≤ 17) : (untouchedSuccessor q).code.toNat ≤ 17 := by
  revert hq
  cases q <;> decide

/-- REQ_SLEEP alone settles the depth. -/
theorem depthSettledAt_untouchedSuccessor {q : Seq} (hq : q.code.toNat ≤ 17) :
    depthSettledAt (untouchedSuccessor q) = (q == .sOffReq || q == .sOnReq || depthSettledAt q) := by
  revert hq
  cases q <;> decide

theorem resetWith_untouched (p : Params) (ins : List Inputs) (e : Nat) : (State.resetWith p ins e).Untouched where
  mode := rfl
  pwmEn := rfl
  pressed := rfl
  btnPrev := rfl
  pcif := rfl
  early := Nat.zero_le _
  pstate := rfl

section Tick

variable {s : State} (h : s.Untouched)
include h

theorem State.Untouched.wake_eq_false (hq : s.seq = .sSleep) : s.wake = false := by
  have hdepth := h.pstate
  rw [hq] at hdepth
  simp [State.wake, h.pcif, hdepth, depthSettledAt, Seq.code]

/-- In Off the sequencer is not in a state of the driving path. -/
theorem State.Untouched.not_driving (hinv : s.Inv) : s.seq ≠ .sOnPwm ∧ s.seq ≠ .sOnReq :=
  ⟨fun hq => hinv.mode_ne_off (.inl hq) h.mode, fun hq => hinv.mode_ne_off (.inr (.inr hq)) h.mode⟩

variable (hp : s.por = false) (hb : s.btn = true)
include hp hb

theorem State.Untouched.next_seq :
    s.next.seq = if boundedWaitAt s.seq = true ∧ 1 < s.dly then s.seq else untouchedSuccessor s.seq := by
  cases hwait : boundedWaitAt s.seq
  case true =>
    rw [next_seq_of_boundedWait hwait hp]
    rcases boundedWaitAt_iff.mp hwait with hq | hq | hq <;> simp [hq, untouchedSuccessor, successor]
  case false =>
    rw [if_neg fun hc => Bool.false_ne_true hc.1]
    cases hq : s.seq
    case sPoll => simp [next_seq_of_poll hq hp, hb, untouchedSuccessor, successor]
    case sDispatch => simp [next_seq_of_dispatch hq hp, h.mode, untouchedSuccessor, successor]
    case sSelect =>
      have hdepth := h.pstate
      rw [hq] at hdepth
      simp [next_seq_of_select hq hp, hdepth, depthSettledAt, Seq.code, untouchedSuccessor, successor]
    case sSleep => simp [next_seq_of_sleep hq hp, h.wake_eq_false hq, untouchedSuccessor, successor]
    case sSelftestWt => simp [hq, boundedWaitAt] at hwait
    case sDebounce => simp [hq, boundedWaitAt] at hwait
    case sWakeup => simp [hq, boundedWaitAt] at hwait
    all_goals rw [Machine.next_seq s hp, hq]; rfl

theorem State.Untouched.next (hinv : s.Inv) : s.next.Untouched where
  mode := by rw [next_mode s hp, h.pressed, h.mode]; simp
  pwmEn := by
    obtain ⟨hon, -⟩ := h.not_driving hinv
    rw [next_pwmEn s hp, if_neg hon, h.pwmEn, ite_self]
  pressed := by rw [next_pressed s hp, h.pressed, hb]; simp
  btnPrev := by rw [next_btnPrev s hp, hb]
  pcif := by rw [next_pcif s hp, State.edge, hb, h.btnPrev, h.pcif]; simp
  early := by
    rw [h.next_seq hp hb]
    split
    · exact h.early
    · exact code_untouchedSuccessor_le h.early
  pstate := by
    obtain ⟨-, hon⟩ := h.not_driving hinv
    rw [next_pstate s hp, if_neg hon, h.next_seq hp hb, h.pstate]
    split
    case isTrue hq => simp [hq, boundedWaitAt, depthSettledAt_untouchedSuccessor, Seq.code]
    case isFalse hq =>
      congr 2
      split
      · rfl
      · simp [depthSettledAt_untouchedSuccessor h.early, hq, hon]

end Tick

/-! What an untouched block shows, read off its sequencer state. -/

section Shows

variable {s : State} (h : s.Untouched) (hinv : s.Inv)
include h

theorem State.Untouched.pstate_eq_deepest_iff : s.pstate = .deepest ↔ depthSettledAt s.seq = true := by
  rw [h.pstate]
  split <;> simp [*]

/-- It sleeps at deepest depth only. -/
theorem State.Untouched.sleepO_eq_iff : s.sleepO = 0b10 ↔ s.seq = .sSleep := by
  by_cases hq : s.seq = .sSleep
  · have hdepth := h.pstate_eq_deepest_iff.mpr (by rw [hq]; decide)
    rw [State.sleepO, powerState_of_asleep (.inl hq), hdepth]
    exact iff_of_true rfl hq
  · have hwake : s.seq ≠ .sWakeup := by
      intro hc
      exact absurd h.early (by rw [hc]; decide)
    rw [State.sleepO, powerState_of_awake hq hwake]
    exact iff_of_false (by decide) hq

include hinv

theorem State.Untouched.led_eq_true_iff : s.led = true ↔ s.seq = .sSelftestWt := by
  simp [State.led, State.pwmOut, h.pwmEn, hinv.led]

/-- The timer runs from BG_START to BG_STOP. -/
theorem State.Untouched.bgRun_eq_true_iff :
    s.bgRun = true ↔ s.seq ≠ .sBootBg ∧ s.seq ≠ .sDeepPwm ∧ s.seq ≠ .sSleep := by
  have hearly := h.early
  rw [hinv.bgRun, h.pstate]
  revert hearly
  cases s.seq <;> decide

end Shows

/-! The timetable (R292), with a self-test pulse of `d` ticks. -/

/-- The states that an untouched block passes, in their order; it stays in the last. -/
def bootPath : Nat → Seq
  | 0 => .sBootBg
  | 1 => .sSelftestOn
  | 2 => .sSelftestWt
  | 3 => .sBootSei
  | 4 => .sPoll
  | 5 => .sAdvance
  | 6 => .sDispatch
  | 7 => .sOffPwm
  | 8 => .sOffReq
  | 9 => .sArm
  | 10 => .sSelect
  | 11 => .sDeepBg
  | 12 => .sDeepPwm
  | _ => .sSleep

/-- The place on this path at tick `n`: the self-test wait, at place 2, lasts `d` ticks, and every other place but the
last lasts one. -/
def bootPlace (d n : Nat) : Nat := if n < 2 then n else if n < d + 2 then 2 else min (n - d + 1) 13

theorem bootPlace_le (d n : Nat) : bootPlace d n ≤ 13 := by
  unfold bootPlace
  split_ifs <;> omega

theorem bootPlace_succ {d : Nat} (hd : 1 ≤ d) (n : Nat) :
    bootPlace d (n + 1) = if 2 ≤ n ∧ n + 1 < d + 2 then bootPlace d n else min (bootPlace d n + 1) 13 := by
  unfold bootPlace
  split_ifs <;> omega

theorem bootPlace_eq_two_iff (d n : Nat) : bootPlace d n = 2 ↔ 2 ≤ n ∧ n < d + 2 := by
  unfold bootPlace
  split_ifs <;> omega

theorem one_le_bootPlace_iff (d n : Nat) : 1 ≤ bootPlace d n ↔ 1 ≤ n := by
  unfold bootPlace
  split_ifs <;> omega

/-- The places after the self-test are reached one tick after another. -/
theorem succ_le_bootPlace_iff {d k : Nat} (hlo : 2 ≤ k) (hhi : k ≤ 12) (n : Nat) :
    k + 1 ≤ bootPlace d n ↔ d + k ≤ n := by
  unfold bootPlace
  split_ifs <;> omega

theorem boundedWaitAt_bootPath : ∀ k ≤ 13, (boundedWaitAt (bootPath k) = true ↔ k = 2) := by decide

theorem untouchedSuccessor_bootPath : ∀ k ≤ 13, untouchedSuccessor (bootPath k) = bootPath (min (k + 1) 13) := by
  decide

/-- An untouched block is where the timetable says, and DLY holds what is left of the self-test wait. -/
structure State.OnTimetable (s : State) (d n : Nat) : Prop where
  inv : s.Inv
  untouched : s.Untouched
  startup : s.params.startupTicks = d
  seq : s.seq = bootPath (bootPlace d n)
  dly : 2 ≤ n → n < d + 2 → s.dly = d + 2 - n

theorem State.OnTimetable.next {s : State} {d n : Nat} (h : s.OnTimetable d n) (hp : s.por = false)
    (hb : s.btn = true) : s.next.OnTimetable d (n + 1) := by
  obtain ⟨hinv, hunt, hd, hseq, hdly⟩ := h
  have hone : 1 ≤ d := hd ▸ Params.one_le_startupTicks hinv.inRange.params
  have hle := bootPlace_le d n
  have hwait : boundedWaitAt s.seq = true ↔ 2 ≤ n ∧ n < d + 2 := by
    rw [hseq, boundedWaitAt_bootPath _ hle, bootPlace_eq_two_iff]
  have hstay : (boundedWaitAt s.seq = true ∧ 1 < s.dly) ↔ 2 ≤ n ∧ n + 1 < d + 2 := by
    rw [hwait]
    omega
  refine ⟨hinv.next, hunt.next hp hb hinv, ?_, ?_, fun hlo hhi => ?_⟩
  · rw [(next_bookkeeping s).1, hd]
  · rw [hunt.next_seq hp hb, bootPlace_succ hone, if_congr hstay rfl rfl, hseq, untouchedSuccessor_bootPath _ hle]
    split <;> rfl
  · rcases Nat.eq_or_lt_of_le hlo with hload | hcount
    · obtain rfl : n = 1 := by omega
      rw [next_dly s hp, hseq, hd]
      simp [bootPlace, bootPath, boundedWaitAt]
    · obtain ⟨hbounded, hgo⟩ := hstay.mpr ⟨by omega, hhi⟩
      rw [(next_of_boundedWait hbounded hp hgo).2]
      omega

/-- With the button released the run from reset follows the timetable. -/
theorem sigma_onTimetable {p : Params} {ins : List Inputs} {e n : Nat} (hwf : p.wf = true)
    (hin : ∀ j, j < n → ((State.resetWith p ins e).inputAt j).por = false ∧
      ((State.resetWith p ins e).inputAt j).btn = true) :
    ((State.resetWith p ins e).sigma n).OnTimetable p.startupTicks n := by
  induction n with
  | zero =>
    exact ⟨resetWith_inv p ins e hwf, resetWith_untouched p ins e, rfl, rfl, fun hc => absurd hc (by decide)⟩
  | succ n ih =>
    obtain ⟨hp, hb⟩ := hin n (Nat.lt_succ_self n)
    refine (ih fun j hj => hin j (Nat.lt_succ_of_lt hj)).next ?_ ?_
    · rwa [State.por, inputAt_sigma]
    · rwa [State.btn, inputAt_sigma]

/-! The columns of the timetable: what the block shows at each place, and from which tick on. -/

/-- The words on op_trace along the path (R292). -/
def bootWord : Nat → Nat
  | 0 => 0x0100
  | 1 => 0x0400
  | 2 => 0x0500
  | 3 => 0x1500
  | 4 => 0x0600
  | 5 => 0x0800
  | 6 => 0x0900
  | 7 => 0x0B00
  | 8 => 0x0D01
  | 9 => 0x0E00
  | 10 => 0x0F00
  | 11 => 0x0200
  | 12 => 0x0B00
  | _ => 0x1001

theorem State.Untouched.opTrace_eq {s : State} (h : s.Untouched) {k : Nat} (hk : k ≤ 13) (hseq : s.seq = bootPath k) :
    s.opTrace.toNat = bootWord k := by
  have hdepth := h.pstate
  obtain ⟨-, -, hops⟩ := sequencerStatesIssueTheirOperations
  obtain ⟨-, hword⟩ := hops s
  rw [hseq] at hdepth hword
  rw [hword, hdepth]
  interval_cases k <;> rfl

theorem bootPlace_of_lt {d n : Nat} (hlo : 2 ≤ n) (hhi : n < d + 2) : bootPlace d n = 2 := by
  rw [bootPlace, if_neg (Nat.not_lt.mpr hlo), if_pos hhi]

theorem bootPlace_add {d : Nat} (hd : 1 ≤ d) (m : Nat) : bootPlace d (d + 2 + m) = min (m + 3) 13 := by
  unfold bootPlace
  split_ifs <;> omega

theorem bootWord_of_ge {k : Nat} (hk : 13 ≤ k) : bootWord k = 0x1001 := by
  obtain ⟨m, rfl⟩ := Nat.exists_eq_add_of_le' hk
  rfl

/-- The words by tick. -/
theorem bootWord_bootPlace {d : Nat} (hd : 1 ≤ d) (n : Nat) : bootWord (bootPlace d n) =
      (if n = 0 then 0x0100 else if n = 1 then 0x0400 else if n < d + 2 then 0x0500
       else if n = d + 2 then 0x1500 else if n = d + 3 then 0x0600
       else if n = d + 4 then 0x0800 else if n = d + 5 then 0x0900
       else if n = d + 6 then 0x0B00 else if n = d + 7 then 0x0D01
       else if n = d + 8 then 0x0E00 else if n = d + 9 then 0x0F00
       else if n = d + 10 then 0x0200 else if n = d + 11 then 0x0B00 else 0x1001) := by
  rcases Nat.lt_or_ge n (d + 2) with hlt | hge
  · match n with
    | 0 => rfl
    | 1 => rfl
    | n + 2 => rw [bootPlace_of_lt (by omega) hlt, if_pos hlt]; rfl
  · obtain ⟨m, rfl⟩ := Nat.exists_eq_add_of_le hge
    rw [bootPlace_add hd]
    rcases Nat.lt_or_ge m 10 with hm | hm
    · interval_cases m <;> simp [bootWord, Nat.add_assoc]
    · rw [bootWord_of_ge (by omega)]
      simp only [Nat.add_assoc]
      repeat rw [if_neg (by omega)]

theorem code_bootPath : ∀ k ≤ 13,
    (bootPath k).code.toNat = if k < 5 then k else if k < 9 then k + 1 else k + 4 := by decide

theorem code_bootPath_bootPlace {d : Nat} (hd : 1 ≤ d) (n : Nat) : (bootPath (bootPlace d n)).code.toNat =
    (if n = 0 then 0 else if n = 1 then 1 else if n < d + 2 then 2 else if n = d + 2 then 3 else if n = d + 3 then 4
     else if n < d + 8 then n - d + 2 else min (n - d + 5) 17) := by
  rw [code_bootPath _ (bootPlace_le d n)]
  unfold bootPlace
  split_ifs <;> omega

theorem gieAt_bootPath : ∀ k ≤ 13, (gieAt (bootPath k) = true ↔ 4 ≤ k) := by decide

theorem pcieAt_bootPath : ∀ k ≤ 13, (pcieAt (bootPath k) = true ↔ 10 ≤ k) := by decide

theorem depthSettledAt_bootPath : ∀ k ≤ 13, (depthSettledAt (bootPath k) = true ↔ 9 ≤ k) := by decide

theorem bootPath_eq_selftestWt_iff : ∀ k ≤ 13, (bootPath k = .sSelftestWt ↔ k = 2) := by decide

theorem bootPath_eq_sleep_iff : ∀ k ≤ 13, (bootPath k = .sSleep ↔ 13 ≤ k) := by decide

theorem bootPath_bgRuns_iff : ∀ k ≤ 13,
    (bootPath k ≠ .sBootBg ∧ bootPath k ≠ .sDeepPwm ∧ bootPath k ≠ .sSleep ↔ 1 ≤ k ∧ ¬ 12 ≤ k) := by decide

end Sys2Proof.Machine

open Sys2Proof Sys2Proof.Machine in
/-- Settles O58: the run is on the timetable, and what the block shows is read off the sequencer state there. -/
theorem bootOrder : Obligations.BootOrder := by
  intro p ins e n hwf hin
  obtain ⟨hinv, hunt, -, hseq, hdly⟩ := sigma_onTimetable hwf hin
  have hd := Params.one_le_startupTicks hwf
  have hle := bootPlace_le p.startupTicks n
  have hsleep : ((State.resetWith p ins e).sigma n).sleepO = 0b10 ↔ p.startupTicks + 12 ≤ n := by
    rw [hunt.sleepO_eq_iff, hseq, bootPath_eq_sleep_iff _ hle]
    exact succ_le_bootPlace_iff (by omega) (by omega) n
  refine ⟨?_, ?_, ?_, ?_, ?_, ?_, ?_, ?_, hsleep, ?_, hunt.mode, hunt.pwmEn⟩
  · rw [hunt.opTrace_eq hle hseq, bootWord_bootPlace hd]
  · rw [hseq, code_bootPath_bootPlace hd]
  · rintro rfl
    exact hdly le_rfl (by omega)
  · rw [hunt.led_eq_true_iff hinv, hseq, bootPath_eq_selftestWt_iff _ hle, bootPlace_eq_two_iff]
  · rw [hinv.gie, hseq, gieAt_bootPath _ hle]
    exact succ_le_bootPlace_iff (by omega) (by omega) n
  · rw [hunt.bgRun_eq_true_iff hinv, hseq, bootPath_bgRuns_iff _ hle, one_le_bootPlace_iff, ← Nat.not_le]
    exact and_congr_right fun _ => not_congr (succ_le_bootPlace_iff (by omega) (by omega) n)
  · rw [hunt.pstate_eq_deepest_iff, hseq, depthSettledAt_bootPath _ hle]
    exact succ_le_bootPlace_iff (by omega) (by omega) n
  · rw [hinv.pcie, hseq, pcieAt_bootPath _ hle]
    exact succ_le_bootPlace_iff (by omega) (by omega) n
  · rw [periphClkEn_eq_false_iff, hsleep]

end

section
/-! PROOF. Decoding and encoding as inverses (30_encoding.md R85 to R89, 20_memory.md R63): what a word that decodes to an
operation holds, the serialised forms of a word, and the operation that a step runs (44_sequencer.md R220, R228). -/

namespace Sys2Proof

/-! A decoded word is the encoding of what it decodes to. -/

/-- The two fields make up the whole word, so no bit of it is dropped (R85). -/
theorem toWord_ofWord (w : OpWord) : (Uop.ofWord w).toWord = w :=
  BitVec.extractLsb'_append_extractLsb'

theorem readNoOperand_eq_ok {u : Uop} {i j : Instr} (h : readNoOperand u i = .ok j) : i = j ∧ u.arg = 0 := by
  unfold readNoOperand at h
  split at h
  case isTrue harg => exact ⟨by simpa using h, harg⟩
  case isFalse => cases h

theorem readDepth_eq_ok {u : Uop} {k : Depth → Instr} {j : Instr} (h : readDepth u k = .ok j) :
    ∃ d : Depth, k d = j ∧ u.arg = d.code.zeroExtend 8 := by
  unfold readDepth at h
  split at h
  case h_1 harg => exact ⟨.idle, by simpa using h, BitVec.eq_of_toNat_eq harg⟩
  case h_2 harg => exact ⟨.deepest, by simpa using h, BitVec.eq_of_toNat_eq harg⟩
  case h_3 => cases h

/-- The opcode map R87 read from right to left: an operation comes from its own opcode and operand only. -/
theorem fields_of_decodeUop {u : Uop} {i : Instr} (h : decodeUop u = .ok i) : u = ⟨i.opcode, i.arg⟩ := by
  suffices hfields : u.opc = i.opcode ∧ u.arg = i.arg by
    obtain ⟨hopc, harg⟩ := hfields
    rw [← hopc, ← harg]
  unfold decodeUop at h
  split at h
  case h_12 hopc =>
    cases h
    exact ⟨BitVec.eq_of_toNat_eq hopc, rfl⟩
  case h_13 hopc =>
    obtain ⟨d, rfl, harg⟩ := readDepth_eq_ok h
    exact ⟨BitVec.eq_of_toNat_eq hopc, harg⟩
  case h_16 hopc =>
    obtain ⟨d, rfl, harg⟩ := readDepth_eq_ok h
    exact ⟨BitVec.eq_of_toNat_eq hopc, harg⟩
  case h_17 hopc =>
    obtain ⟨d, rfl, harg⟩ := readDepth_eq_ok h
    exact ⟨BitVec.eq_of_toNat_eq hopc, harg⟩
  case h_22 => cases h
  all_goals
    rename_i hopc
    obtain ⟨rfl, harg⟩ := readNoOperand_eq_ok h
    exact ⟨BitVec.eq_of_toNat_eq hopc, harg⟩

theorem encode_of_decode {w : OpWord} {i : Instr} (h : decode w = .ok i) : encode i = w := by
  rw [encode, ← fields_of_decodeUop h, toWord_ofWord]

/-! A serialised word, in either form. -/

/-- Two bytes that hold a word's value, the low one first, decode as the word does (log entry 12). -/
theorem decodeBytes_pair {w : OpWord} {lo hi : Byte} (hlo : lo.toNat = w.toNat % 256)
    (hhi : hi.toNat = w.toNat / 256) : decodeBytes [lo, hi] = decode w := by
  have hw := w.isLt
  have hfits : hi.toNat < 0x20 := by omega
  have hword : BitVec.ofNat 13 (256 * hi.toNat + lo.toNat) = w := by
    rw [hlo, hhi, Nat.div_add_mod, BitVec.ofNat_toNat, BitVec.setWidth_eq]
  rw [decodeBytes, if_pos hfits, hword]

theorem decodeBytes_encodeBytes (i : Instr) : decodeBytes (encodeBytes i) = .ok i := by
  have hw := (encode i).isLt
  rw [encodeBytes, decodeBytes_pair (w := encode i), decode_encode]
  · simp
  · simp [Nat.shiftRight_eq_div_pow]; omega

theorem decodeTableWord_encode (i : Instr) : decodeTableWord 16 (encode i).toNat = some i := by
  have hw := (encode i).isLt
  have hmod : (encode i).toNat % 2 ^ 16 = (encode i).toNat := by omega
  have hbytes : decodeBytes [BitVec.ofNat 8 (encode i).toNat, BitVec.ofNat 8 ((encode i).toNat / 256)] = .ok i := by
    rw [decodeBytes_pair (w := encode i), decode_encode]
    · simp
    · simp; omega
  simp only [decodeTableWord, hmod, hbytes]
  exact if_pos (by omega)

namespace Machine

/-! Placing the sequencer on an operation (log entry 11). -/

/-- The duty of On is FULLBRIGHT itself (40_mode_fsm.md R113). -/
theorem duty_on (fb : Byte) : duty .on fb = fb :=
  BitVec.eq_of_toNat_eq ((toNat_duty (m := .on) rfl fb).trans (Nat.div_one _))

theorem op_issue (s : State) (i : Instr) : (s.issue i).op = i := by
  cases i
  case setDuty v => exact congrArg Instr.setDuty (duty_on v)
  case reqSleep d => cases d <;> rfl
  all_goals rfl

theorem inputs_issue (s : State) (i : Instr) : (s.issue i).inputs = releasePor s.inputs := by
  cases i
  case reqSleep d => cases d <;> rfl
  all_goals rfl

/-- With `por` released the coming clock edge is a tick, whether its sample is listed or free. -/
theorem por_of_releasePor {s : State} {ins : List Inputs} (h : s.inputs = releasePor ins) : s.por = false := by
  cases ins <;> simp [State.por, State.inputAt, h, releasePor]

theorem withFetchWord_encode (s : State) (i : Instr) : s.withFetchWord 16 (encode i).toNat = s.issue i := by
  rw [State.withFetchWord, decodeTableWord_encode]

/-- Without `por` a step is the tick of the issued operation. -/
theorem step_eq_exec {s : State} (hp : s.por = false) : step s = exec s.op s := by
  simp [step, hp]

end Machine

end Sys2Proof

open Sys2Proof Sys2Proof.Machine in
/-- Settles O20: the decoder undoes the encoder row by row of the opcode map, a word that decodes has the fields of its
operation, and both serialised forms hold the value of the word. -/
theorem decodeEncodeAgree : Obligations.DecodeEncodeAgree :=
  ⟨decode_encode, fun _ _ => encode_of_decode, decodeBytes_encodeBytes, decodeTableWord_encode⟩

open Sys2Proof Sys2Proof.Machine in
/-- Settles O19: each of the words is the encoding of its operation, which the decoder undoes. -/
theorem writtenWordsDecode : Obligations.WrittenWordsDecode :=
  ⟨decode_encode .bgStart, decode_encode .poll, decode_encode .dispatch, decode_encode (.setDuty 250),
    decode_encode (.reqSleep .deepest), decode_encode (.sleep .idle), decode_encode .sei⟩

open Sys2Proof Sys2Proof.Machine in
/-- Settles O23: the word on op_trace is the encoding of the issued operation, and decodes to that alone. -/
theorem stepRunsDecodedOperation : Obligations.StepRunsDecodedOperation := by
  intro s i hp hdec
  have hop : s.op = i := by simpa [State.opTrace, decode_encode] using hdec
  rw [step_eq_exec hp, hop]

open Sys2Proof Sys2Proof.Machine in
/-- Settles O24: the table word decodes to the operation, and the state placed on it issues it at an edge without
`por`. -/
theorem fetchWordRunsNext : Obligations.FetchWordRunsNext := by
  intro s i
  rw [withFetchWord_encode]
  refine ⟨by rw [State.opTrace, op_issue], ?_⟩
  rw [step_eq_exec (por_of_releasePor (inputs_issue s i)), op_issue]

end

section
/-! PROOF. The machine against the one-page listing of 44_sequencer.md R227: the free-running part, the operation with its
successor, and the flag, each with its counterpart. -/

namespace Sys2Proof.Machine

/-- Parts 1 and 2 of the listing are what every tick does before the operation writes. -/
theorem listingFree_eq_freeRun (s : State) : listingFree s = s.freeRun := by
  unfold listingFree State.freeRun State.pwmRun
  dsimp only
  repeat' split
  all_goals rfl

/-- Part 4 of the listing is the detector's set of PCIF. -/
theorem listingFlag_eq (s t : State) : listingFlag s t = { t with pcif := t.pcif || (s.pcie && s.edge) } := by
  unfold listingFlag
  by_cases hset : s.pcie = true ∧ s.btn ≠ s.btnPrev
  · simp [hset, State.edge]
  · have hedge : (s.pcie && s.edge) = false := by simpa [State.edge] using hset
    rw [if_neg hset, hedge, Bool.or_false]

/-- The state that an operation's writes give, with SEQ moved by the successor table. -/
def State.written (s : State) : State := { s.writes s.op s.freeRun with seq := successor s.seq (s.signals s.op) }

theorem with_seq_of_eq {t : State} {q : Seq} (hq : t.seq = q) : { t with seq := q } = t := by
  subst hq
  rfl

/-- Part 3 of the listing writes what the issued operation writes and moves SEQ by the successor table; PWM_DISABLE also
puts back PWM_CMP, which its line of the listing leaves to the latch (log entry 6). -/
theorem listingOp_freeRun (s : State) :
    s.written = if s.op = .pwmDisable then { listingOp s s.freeRun with pwmCmp := s.pwmCmp }
      else listingOp s s.freeRun := by
  cases hq : s.seq
  all_goals simp only [State.written, State.op, hq, State.writes, State.signals, listingOp]
  case sSelftestWt =>
    by_cases hdly : 1 < s.dly <;> simp [successor, State.countdownDone, State.countdownDly, hq, hdly]
  case sPoll => cases hb : s.btn <;> simp [State.pollTaken, successor, hb]
  case sDebounce =>
    by_cases hdly : 1 < s.dly <;> simp [successor, State.countdownDone, State.countdownDly, hq, hdly]
  case sAdvance => cases s.pressed <;> simp [successor]
  case sDispatch => by_cases hm : s.mode = .off <;> simp [State.dispatchTaken, successor, hm]
  case sOnPwm => cases hen : s.pwmEn <;> simp [successor, hen]
  case sSelect => cases hd : s.pstate <;> simp [State.selectTaken, successor, hd]
  case sSleep =>
    simp only [← wake_iff]
    cases s.wake
    case false => exact with_seq_of_eq ((freeRun_seq s).trans hq)
    case true => cases s.pstate <;> simp [successor, Params.wakeLatency]
  case sWakeup =>
    by_cases hdly : 1 < s.dly <;> simp [successor, State.countdownDone, State.countdownDly, hq, hdly]
  case sWakeBg => cases hd : s.pstate <;> simp [successor, hd]
  all_goals simp [successor]

/-- A tick is the writes of its operation, the successor and the flag. -/
theorem tick_eq_listingFlag (s : State) :
    s.tick (s.signals s.op) (s.writes s.op) = listingFlag s s.written := by
  rw [listingFlag_eq]
  rfl

end Sys2Proof.Machine

open Sys2Proof Sys2Proof.Machine in
/-- Settles O26: the tick is taken apart into the parts of the listing; in a tick of PWM_DISABLE the flag of part 4 and
the value of PWM_CMP do not touch each other. -/
theorem machineRefinesListing : Obligations.MachineRefinesListing := by
  intro s hp
  rw [step_eq_exec hp, exec_eq_tick, tick_eq_listingFlag, listingOp_freeRun, listingStep, listingFree_eq_freeRun]
  split
  · rw [listingFlag_eq, listingFlag_eq]
  · rfl

end

section
/-! PROOF. Reset and the invariant as statements on steps (10_state.md R41, 70_reset_and_hazards.md R290), and the widths
of the two counters that the model holds as natural numbers (R24, R37). -/

namespace Sys2Proof

/-- Every value loaded into DLY fits DLY_W bits (00_scope.md R8). -/
theorem Params.loads_lt_two_pow_dlyWidth (p : Params) :
    p.startupTicks < 2 ^ p.dlyWidth ∧ p.debounceTicks < 2 ^ p.dlyWidth ∧ p.tWakeDeep < 2 ^ p.dlyWidth := by
  have hfits := (p.dlyWidth_le_iff p.dlyWidth).mp le_rfl
  rw [max_lt_iff, max_lt_iff, and_assoc] at hfits
  exact hfits

/-- PWM_PRE has bits enough to count PWM_DIV values (10_state.md R24). -/
theorem Params.pwmDiv_le_two_pow_preWidth (p : Params) : p.pwmDiv ≤ 2 ^ p.preWidth := by
  unfold Params.preWidth
  split
  case isTrue hone => exact hone.trans Nat.one_le_two_pow
  case isFalse hmore => exact Nat.le_of_pred_lt Nat.lt_log2_self

namespace Machine

theorem dlyMaxAt_lt_two_pow_dlyWidth {p : Params} (hp : p.wf = true) (d : Depth) (q : Seq) :
    dlyMaxAt p d q < 2 ^ p.dlyWidth := by
  obtain ⟨-, -, -, -, -, -, -, hdeep⟩ := p.wf_iff.mp hp
  obtain ⟨hstartup, hdebounce, hwake⟩ := p.loads_lt_two_pow_dlyWidth
  cases hq : boundedWaitAt q
  case false => rw [dlyMaxAt_eq_zero p d hq]; exact Nat.two_pow_pos _
  case true =>
    rcases boundedWaitAt_iff.mp hq with rfl | rfl | rfl
    · exact hstartup
    · exact hdebounce
    · cases d
      · exact hdeep.trans_lt hwake
      · exact hwake

/-- No register depends on the pending inputs or the edge count at reset (R41). -/
theorem read_powerOn (s : State) (r : Reg) : s.powerOn.read r = (State.resetWith s.params [] 0).read r := by
  cases r <;> rfl

end Machine

end Sys2Proof

open Sys2Proof Sys2Proof.Machine in
/-- Settles O33: a step answers `State.next`, and every clock edge keeps each clause of the invariant. -/
theorem stepKeepsInvariant : Obligations.StepKeepsInvariant := by
  intro s t hinv hstep
  rw [← next_of_step s t hstep]
  exact hinv.next

open Sys2Proof Sys2Proof.Machine in
/-- Settles O32: at reset every unit is stopped, in the first sequencer state. -/
theorem resetSatisfiesInvariant : Obligations.ResetSatisfiesInvariant :=
  resetWith_inv

open Sys2Proof Sys2Proof.Machine in
/-- Settles O30: with `por` the step is the power-on reset, which keeps the parameters alone. -/
theorem porForcesResetState : Obligations.PorForcesResetState := by
  intro s hp
  refine ⟨s.powerOn, ?_, rfl, read_powerOn s⟩
  rw [step_eq_next, next_of_por s hp]

open Sys2Proof Sys2Proof.Machine in
/-- Settles O36: along a run the invariant bounds DLY by the loads of its waits and PWM_PRE by PWM_DIV, and the two
widths are made for these bounds. -/
theorem countersFitTheirWidths : Obligations.CountersFitTheirWidths := by
  intro p ins e n hp
  have hinv := sigma_resetWith_inv p ins e n hp
  have hdly := hinv.dlyMax
  have hpre := hinv.inRange.pre
  rw [sigma_params] at hdly hpre
  exact ⟨hdly.trans_lt (dlyMaxAt_lt_two_pow_dlyWidth hp _ _), hpre.trans_le p.pwmDiv_le_two_pow_preWidth⟩

end

section
/-! PROOF. The cycle of the modes (40_mode_fsm.md R110, R116): `next_mode` iterated, and MODE as a count of the confirmed
presses along a run. -/

namespace Sys2Proof.Machine

/-- Iterating `next_mode` adds up modulo five in the codes (R110). -/
theorem toNat_code_nextMode_iterate (m : Mode) (k : Nat) :
    (nextMode^[k] m).code.toNat = (m.code.toNat + k) % 5 := by
  induction k with
  | zero => exact (Nat.mod_eq_of_lt m.code_lt).symm
  | succ k ih => rw [Function.iterate_succ_apply', toNat_code_nextMode, ih, Nat.mod_add_mod, Nat.add_assoc]

theorem Mode.eq_iff_toNat_code {m m' : Mode} : m = m' ↔ m.code.toNat = m'.code.toNat := by
  cases m <;> cases m' <;> decide

/-- The cycle closes after every five steps and not before. -/
theorem nextMode_iterate_eq_self_iff (m : Mode) (k : Nat) : nextMode^[k] m = m ↔ 5 ∣ k := by
  have hlt := m.code_lt
  rw [Mode.eq_iff_toNat_code, toNat_code_nextMode_iterate]
  omega

/-- Along a powered run MODE counts the confirmed presses. -/
theorem sigma_mode_eq_iterate {s : State} {n : Nat} (hpow : s.Powered n) :
    (s.sigma n).mode = nextMode^[s.confirmed n] s.mode := by
  induction n with
  | zero => rfl
  | succ n ih =>
    have hn := ih fun j hj => hpow j (Nat.lt_succ_of_lt hj)
    rw [State.sigma, next_mode _ (por_sigma s _ n hpow (Nat.lt_succ_self n)), State.confirmed]
    by_cases hpress : (s.sigma n).seq = .sAdvance ∧ (s.sigma n).pressed = true
    · simp [hpress, hn, Function.iterate_succ_apply']
    · have hnone : ((s.sigma n).seq == .sAdvance && (s.sigma n).pressed) = false := by simpa using hpress
      rw [if_neg hpress, hn, hnone]
      rfl

/-- Asleep in Off the PWM unit is disabled and cleared, and the LED is dark. -/
theorem State.Inv.dark_of_sleep_off {s : State} (h : s.Inv) (hq : s.seq = .sSleep) (hm : s.mode = .off) :
    s.pwmEn = false ∧ s.pwmCnt = 0 ∧ s.pwmPre = 0 ∧ s.led = false := by
  obtain ⟨-, hpwm, -⟩ := h.asleep (.inl hq)
  have hen : s.pwmEn = false := by simpa [hm] using hpwm
  obtain ⟨hcnt, hpre⟩ := h.stopped hen
  exact ⟨hen, hcnt, hpre, led_eq_false (h.ledForce_of_asleep (.inl hq)) hen⟩

end Sys2Proof.Machine

open Sys2Proof Sys2Proof.Machine in
/-- Settles O40: `next_mode` counts modulo five, MODE counts the confirmed presses with it, and the invariant ties the
sleeping PWM to the mode. -/
theorem fivePressesReturnToOff : Obligations.FivePressesReturnToOff := by
  refine ⟨fun m k hpos hle => ?_, fun s n => sigma_mode_eq_iterate, fun s n hinv hpow hm hfive hq => ?_⟩
  · rw [nextMode_iterate_eq_self_iff]
    omega
  · have hoff : (s.sigma n).mode = .off := by
      rw [sigma_mode_eq_iterate hpow, hfive, hm]
      exact (nextMode_iterate_eq_self_iff .off 5).mpr dvd_rfl
    exact ⟨hoff, (hinv.sigma n).dark_of_sleep_off hq hoff⟩

end

section
/-! PROOF. The compare latch (42_pwm.md R155), and the stale first period (70_reset_and_hazards.md section 2): PWM_ENABLE
starts a period with the old buffer, no PWM_DISABLE comes while the mode drives, and the period ends with the latch of the
new duty. -/

namespace Sys2Proof.Machine

/-- `State.next` of a tick is what the issued operation answers. -/
theorem exec_of_issued {s : State} {i : Instr} (hp : s.por = false) (hop : s.op = i) : exec i s = .next s.next := by
  rw [← hop, ← step_eq_exec hp, step_eq_next]

/-- PWM_CMP takes the buffer at a period boundary: a wrap-around that PWM_DISABLE does not undo, or an enabling
PWM_ENABLE. -/
theorem next_pwmCmp {s : State} (hp : s.por = false) :
    s.next.pwmCmp =
      if (s.op ≠ .pwmDisable ∧ s.pwmWraps = true) ∨ (s.op = .pwmEnable ∧ s.pwmEn = false) then s.pwmCmpBuf
      else s.pwmCmp := by
  by_cases hdis : s.op = .pwmDisable
  · obtain ⟨-, -, -, hcmp⟩ := exec_pwmDisable_writes (exec_of_issued hp hdis)
    simp [hdis, hcmp]
  by_cases hon : s.op = .pwmEnable ∧ s.pwmEn = false
  · obtain ⟨-, -, -, hcmp⟩ := exec_pwmEnable_of_disabled (exec_of_issued hp hon.1) hon.2
    rw [if_pos (.inr hon), hcmp]
  · obtain ⟨-, hran⟩ := next_pwmRan hp hdis hon
    simp [hran.cmp, pwmRun_cmp_eq, hdis, hon]

/-! A driving mode keeps the sequencer away from PWM_DISABLE. -/

/-- The sequencer states that only the mode Off, or deepest depth, leads to: the directive of Off and the teardown. -/
def onOffPath (q : Seq) : Bool := q == .sOffPwm || q == .sOffReq || q == .sDeepBg || q == .sDeepPwm

/-- Away from the Off path, and with idle depth requested where SELECT is still to read it. -/
structure State.OnDrivingPath (s : State) : Prop where
  seq : onOffPath s.seq = false
  idle : s.seq = .sArm ∨ s.seq = .sSelect → s.pstate = .idle

/-- The Off path is entered from DISPATCH or SELECT, when taken. -/
theorem onOffPath_successor {q : Seq} {sig : Signals} (hq : onOffPath q = false)
    (hbranch : q = .sDispatch ∨ q = .sSelect → sig.taken = false) : onOffPath (successor q sig) = false := by
  obtain ⟨done, taken⟩ := sig
  revert hq hbranch
  cases q <;> cases done <;> cases taken <;> decide

theorem of_successor_eq_arm_or_select {q : Seq} {sig : Signals} (hq : onOffPath q = false)
    (h : successor q sig = .sArm ∨ successor q sig = .sSelect) : q = .sOnReq ∨ q = .sArm := by
  obtain ⟨done, taken⟩ := sig
  revert hq h
  cases q <;> cases done <;> cases taken <;> decide

theorem State.OnDrivingPath.next {s : State} (h : s.OnDrivingPath) (hp : s.por = false) (hm : s.mode ≠ .off) :
    s.next.OnDrivingPath where
  seq := by
    rw [next_seq s hp]
    refine onOffPath_successor h.seq ?_
    rintro (hq | hq)
    · simp [signals_of_dispatch hq, hm]
    · simp [signals_of_select hq, h.idle (.inr hq)]
  idle hq := by
    rw [next_seq s hp] at hq
    rw [next_pstate s hp]
    rcases of_successor_eq_arm_or_select h.seq hq with hreq | harm
    · simp [hreq]
    · simp [harm, h.idle (.inl harm)]

theorem State.OnDrivingPath.op_ne_pwmDisable {s : State} (h : s.OnDrivingPath) : s.op ≠ .pwmDisable := by
  intro hop
  have hseq := h.seq
  rcases seq_of_op_pwmDisable hop with hq | hq <;> simp [hq, onOffPath] at hseq

theorem sigma_onDrivingPath {s : State} {n : Nat} (h : s.OnDrivingPath) (hpow : s.Powered n)
    (hm : ∀ j, j < n → (s.sigma j).mode ≠ .off) : (s.sigma n).OnDrivingPath := by
  induction n with
  | zero => exact h
  | succ n ih =>
    exact (ih (fun j hj => hpow j (by omega)) fun j hj => hm j (by omega)).next
      (por_sigma s _ n hpow (Nat.lt_succ_self n)) (hm n (Nat.lt_succ_self n))

/-! The buffer, from SET_DUTY on. -/

/-- SET_DUTY puts the duty of the mode into the buffer, where it stays while the mode does: a later SET_DUTY writes the
same value. -/
theorem sigma_cmpBuf_of_onDuty {s : State} {n : Nat} (hq : s.seq = .sOnDuty) (hpow : s.Powered n)
    (hmode : ∀ j, j ≤ n → (s.sigma j).mode = s.mode) {j : Nat} (hpos : 1 ≤ j) (hj : j ≤ n) :
    (s.sigma j).pwmCmpBuf = duty s.mode s.fullbright := by
  induction j, hpos using Nat.le_induction with
  | base =>
    rw [State.sigma, State.sigma, next_pwmCmpBuf s (hpow 0 hj), if_pos hq]
  | succ j hpos ih =>
    rw [State.sigma, next_pwmCmpBuf _ (por_sigma s n j hpow hj), hmode j (by omega),
      sigma_fullbright fun i hi => hpow i (by omega), ih (by omega), ite_self]

/-! The first period. -/

/-- The last tick number of a period, in the bases PWM_DIV and PWM_TOP: both digits are the largest. -/
theorem digits_of_last {n top div : Nat} (htop : 0 < top) (hdiv : 0 < div) (hn : n + 1 = top * div) :
    n % div = div - 1 ∧ n / div % top = top - 1 := by
  have hmod := add_one_mod_eq_ite n hdiv
  have hquot := add_one_div_eq_ite n hdiv
  rw [hn, Nat.mul_mod_left] at hmod
  rw [hn, Nat.mul_div_cancel _ hdiv] at hquot
  have hlast : n % div = div - 1 := by
    by_contra hne
    rw [if_neg hne] at hmod
    omega
  rw [if_pos hlast] at hquot
  exact ⟨hlast, by rw [Nat.mod_eq_of_lt] <;> omega⟩

/-- The last tick of the first period wraps around and latches the buffer (R155). -/
theorem sigma_cmp_of_period {s : State} {n : Nat} (hrange : s.InRange) (hen : s.pwmEn = true) (hcnt : s.pwmCnt = 0)
    (hpre : s.pwmPre = 0) (hpow : s.Powered (n + 1)) (hdis : ∀ j, j < n + 1 → (s.sigma j).op ≠ .pwmDisable)
    (hn : n + 1 = s.params.pwmTop * s.params.pwmDiv) : (s.sigma (n + 1)).pwmCmp = (s.sigma n).pwmCmpBuf := by
  obtain ⟨-, -, htop, -, -, hdiv, -⟩ := s.params.wf_iff.mp hrange.params
  obtain ⟨hpren, hcntn⟩ := sigma_pre_cnt_from_zero hrange hen hcnt hpre hpow hdis (Nat.le_succ n)
  have hwraps : (s.sigma n).pwmWraps = true := by
    rw [pwmWraps_iff, sigma_params, hpren, hcntn]
    exact ⟨sigma_pwmEn_of_enabled hen hpow hdis (Nat.le_succ n), digits_of_last htop hdiv hn⟩
  rw [(sigma_pwmRan_of_enabled hen hpow hdis (Nat.lt_succ_self n)).cmp, pwmRun_cmp_eq, if_pos hwraps]

/-- The tick of an enabling PWM_ENABLE, in S_ON_PWM: the counter starts from zero with the old buffer, and SET_DUTY is
next. -/
theorem next_of_enabling {s : State} (hrange : s.InRange) (hq : s.seq = .sOnPwm) (hen : s.pwmEn = false)
    (hp : s.por = false) :
    s.next.InRange ∧ s.next.seq = .sOnDuty ∧ s.next.pwmEn = true ∧ s.next.pwmCnt = 0 ∧ s.next.pwmPre = 0 ∧
      s.next.pwmCmp = s.pwmCmpBuf := by
  obtain ⟨hen', hpre, hcnt, hcmp⟩ :=
    exec_pwmEnable_of_disabled (exec_of_issued hp ((issuedAt_pwmEnable s).mpr hq)) hen
  obtain ⟨-, -, htop, -, -, hdiv, -⟩ := s.params.wf_iff.mp hrange.params
  have hparams := (next_bookkeeping s).1
  refine ⟨⟨?_, ?_, ?_⟩, ?_, hen', hcnt, hpre, hcmp⟩
  · rw [hparams]; exact hrange.params
  · rw [hparams, hcnt]; exact htop
  · rw [hparams, hpre]; exact hdiv
  · rw [next_seq s hp, hq]; rfl

end Sys2Proof.Machine

open Sys2Proof Sys2Proof.Machine in
/-- Settles O44: the boundary is a wrap-around outside PWM_DISABLE, or an enabling PWM_ENABLE. -/
theorem compareLatchesAtBoundaryOnly : Obligations.CompareLatchesAtBoundaryOnly := by
  intro s hp
  simp only [next_pwmCmp hp, pwmWraps_iff]

open Sys2Proof Sys2Proof.Machine in
/-- Settles O48: PWM_ENABLE starts the period with the old buffer, SET_DUTY fills the buffer in the next tick, and in a
driving mode no PWM_DISABLE breaks the period, whose last tick latches the buffer. -/
theorem staleFirstPeriod : Obligations.StaleFirstPeriod := by
  intro s hrange hq hen hm hpow hmode
  generalize hper : s.params.pwmTop * s.params.pwmDiv = per at hpow hmode ⊢
  have hp : s.por = false := hpow 0 (Nat.succ_pos _)
  obtain ⟨hrange', hduty, hen', hcnt, hpre, hcmp⟩ := next_of_enabling hrange hq hen hp
  have hper' : s.next.params.pwmTop * s.next.params.pwmDiv = per := by rw [(next_bookkeeping s).1, hper]
  have hpow' : s.next.Powered per := powered_sigma s _ 1 _ hpow (by omega)
  have hmode' (j : Nat) (hj : j ≤ per) : (s.next.sigma j).mode = s.mode := by
    rw [← sigma_next]; exact hmode _ (by omega)
  have hmode0 : s.next.mode = s.mode := hmode' 0 (Nat.zero_le _)
  have hdis (j : Nat) (hj : j < per) : (s.next.sigma j).op ≠ .pwmDisable := by
    have hpath : s.next.OnDrivingPath := ⟨by rw [hduty]; rfl, by simp [hduty]⟩
    refine (sigma_onDrivingPath hpath (fun i hi => hpow' i (by omega)) fun i hi => ?_).op_ne_pwmDisable
    rwa [hmode' i (by omega)]
  have hbuf (j : Nat) (hpos : 1 ≤ j) (hj : j ≤ per) : (s.next.sigma j).pwmCmpBuf = duty s.mode s.fullbright := by
    rw [sigma_cmpBuf_of_onDuty hduty hpow' (fun i hi => (hmode' i hi).trans hmode0.symm) hpos hj, hmode0,
      next_fullbright s hp]
  refine ⟨fun j hpos hj => ?_, fun j hpos hj => ?_, fun htwo => ?_⟩
  · obtain ⟨k, rfl⟩ := Nat.exists_eq_add_of_le' hpos
    rw [sigma_next, sigma_cmp_of_lt_period hrange' hen' hcnt hpre hpow' hdis (by omega) (by omega), hcmp]
  · obtain ⟨k, rfl⟩ := Nat.exists_eq_add_of_le' (Nat.le_of_succ_le hpos)
    rw [sigma_next]
    exact hbuf k (by omega) (by omega)
  · obtain ⟨n, rfl⟩ := Nat.exists_eq_add_of_le' (Nat.le_of_succ_le htwo)
    rw [sigma_next, sigma_cmp_of_period hrange' hen' hcnt hpre hpow' hdis hper'.symm]
    exact hbuf n (by omega) (by omega)

end

section
/-! PROOF. Every wait but SLEEP is bounded (70_reset_and_hazards.md section 3): a count of the ticks left before S_SLEEP,
which every tick lowers. -/

namespace Sys2Proof.Machine

/-- How many ticks may pass before S_SLEEP, at most, besides those that DLY counts: the longest way on from each
sequencer state, with the waits that it has still to load. -/
def ticksToSleepAt (p : Params) : Seq → Nat
  | .sBootBg => p.startupTicks + p.debounceTicks + 13
  | .sSelftestOn => p.startupTicks + p.debounceTicks + 12
  | .sSelftestWt => p.debounceTicks + 11
  | .sBootSei => p.debounceTicks + 11
  | .sPoll => p.debounceTicks + 10
  | .sDebounce => 9
  | .sAdvance => 9
  | .sDispatch => 8
  | .sOffPwm => 6
  | .sOffReq => 5
  | .sOnPwm => 7
  | .sOnDuty => 6
  | .sOnReq => 5
  | .sArm => 4
  | .sSelect => 3
  | .sDeepBg => 2
  | .sDeepPwm => 1
  | .sSleep => 0
  | .sWakeup => p.debounceTicks + 15
  | .sWakeCli => p.debounceTicks + 15
  | .sWakeClrf => p.debounceTicks + 14
  | .sWakeDisarm => p.debounceTicks + 13
  | .sWakeBg => p.debounceTicks + 12
  | .sWakeSei => p.debounceTicks + 11

def State.ticksToSleep (s : State) : Nat := s.dly + ticksToSleepAt s.params s.seq

theorem eq_sleep_of_ticksToSleepAt {p : Params} {q : Seq} (h : ticksToSleepAt p q = 0) : q = .sSleep := by
  cases q <;> simp [ticksToSleepAt] at h ⊢

/-- At the end of a bounded wait the count of the sequencer state does not grow. -/
theorem ticksToSleepAt_of_expired (p : Params) {q : Seq} (hq : boundedWaitAt q = true) :
    ticksToSleepAt p (successor q {}) ≤ ticksToSleepAt p q := by
  rcases boundedWaitAt_iff.mp hq with rfl | rfl | rfl <;> simp [successor, ticksToSleepAt]

/-- Outside the waits every tick takes one off the count, a load of DLY included. -/
theorem ticksToSleepAt_successor_lt (p : Params) (d : Depth) {q : Seq} (sig : Signals) (hwait : boundedWaitAt q = false)
    (hsleep : q ≠ .sSleep) :
    dlyMaxAt p d (successor q sig) + ticksToSleepAt p (successor q sig) < ticksToSleepAt p q := by
  cases q
  case sSelftestWt => exact absurd hwait (by decide)
  case sDebounce => exact absurd hwait (by decide)
  case sWakeup => exact absurd hwait (by decide)
  case sSleep => exact absurd rfl hsleep
  case sPoll => cases ht : sig.taken <;> simp [successor, ht, dlyMaxAt, ticksToSleepAt]
  case sDispatch => cases ht : sig.taken <;> simp [successor, ht, dlyMaxAt, ticksToSleepAt]
  case sSelect => cases ht : sig.taken <;> simp [successor, ht, dlyMaxAt, ticksToSleepAt]
  all_goals simp only [successor, dlyMaxAt, ticksToSleepAt]; omega

theorem State.Inv.ticksToSleep_next_lt {s : State} (h : s.Inv) (hp : s.por = false) (hq : s.seq ≠ .sSleep) :
    s.next.ticksToSleep < s.ticksToSleep := by
  rw [State.ticksToSleep, State.ticksToSleep, (next_bookkeeping s).1]
  cases hwait : boundedWaitAt s.seq
  case true =>
    by_cases hdly : 1 < s.dly
    · obtain ⟨hseq, hdly'⟩ := next_of_boundedWait hwait hp hdly
      rw [hseq, hdly']
      omega
    · obtain ⟨hdly', hseq⟩ := next_of_boundedWait_expired hwait hp (Nat.le_of_not_lt hdly)
      have hone := h.dlyMin hwait
      have hle := ticksToSleepAt_of_expired s.params hwait
      rw [hseq, hdly']
      omega
  case false =>
    have hzero := h.dlyMax
    rw [dlyMaxAt_eq_zero _ _ hwait] at hzero
    rcases h.dly_next_cases hp with ⟨hdly, -⟩ | hload
    · omega
    · have hlt := ticksToSleepAt_successor_lt s.params s.next.pstate (s.signals s.op) hwait hq
      rw [hload, next_seq s hp]
      omega

/-- The count is a bound: S_SLEEP comes within that many powered ticks. -/
theorem State.Inv.exists_sleep {s : State} (h : s.Inv) {n : Nat} (hn : s.ticksToSleep ≤ n) (hpow : s.Powered n) :
    ∃ k, k ≤ n ∧ (s.sigma k).seq = .sSleep := by
  induction n generalizing s with
  | zero =>
    have hzero := Nat.le_zero.mp ((Nat.le_add_left _ _).trans hn)
    exact ⟨0, le_rfl, eq_sleep_of_ticksToSleepAt hzero⟩
  | succ n ih =>
    by_cases hq : s.seq = .sSleep
    · exact ⟨0, Nat.zero_le _, hq⟩
    have hlt := h.ticksToSleep_next_lt (hpow 0 (Nat.succ_pos n)) hq
    obtain ⟨k, hk, hsleep⟩ := ih h.next (by omega) (powered_sigma s _ 1 n hpow (by omega))
    exact ⟨k + 1, by omega, by rw [sigma_next]; exact hsleep⟩

/-- The longest way begins at the wake latency, or at reset. -/
theorem State.Inv.ticksToSleep_le {s : State} (h : s.Inv) :
    s.ticksToSleep ≤ s.params.startupTicks + s.params.debounceTicks + s.params.tWakeDeep + 20 := by
  obtain ⟨-, -, -, -, -, -, -, hdeep⟩ := s.params.wf_iff.mp h.inRange.params
  have hmax := h.dlyMax
  have hlatency : s.params.wakeLatency s.pstate ≤ s.params.tWakeDeep := by
    cases s.pstate
    · exact hdeep
    · exact le_rfl
  rw [State.ticksToSleep]
  revert hmax
  cases s.seq <;> simp only [dlyMaxAt, ticksToSleepAt] <;> omega

end Sys2Proof.Machine

open Sys2Proof Sys2Proof.Machine in
/-- Settles O59: every tick outside S_SLEEP lowers the count of the ticks left, which the invariant bounds. -/
theorem sleepIsReachedInBoundedTime : Obligations.SleepIsReachedInBoundedTime :=
  fun _ hinv hpow => hinv.exists_sleep hinv.ticksToSleep_le hpow

end

section
/-! PROOF. Operations as text (30_encoding.md R91): a word with no blank in it is read as one word, a number in decimal
as its value, and so the text of an operation as that operation. -/

namespace Sys2Proof

/-! Words on a line. -/

/-- The characters that end a word: blanks, and the start of a comment (log entry 14). -/
def separator (c : Char) : Bool := c == ' ' || c == '\t' || c == ';'

theorem separator_eq_false_iff {c : Char} : separator c = false ↔ ¬ (c = ' ' ∨ c = '\t') ∧ c ≠ ';' := by
  simp [separator]

/-- A word that a line can hold. -/
structure IsWord (w : List Char) : Prop where
  nonempty : w ≠ []
  solid : ∀ c ∈ w, separator c = false

/-- The reader collects a word up to the next blank or the end of the line. -/
theorem wordsFrom_append {w : List Char} (hw : ∀ c ∈ w, separator c = false) (cur rest : List Char) :
    wordsFrom cur (w ++ rest) = wordsFrom (cur ++ w) rest := by
  induction w generalizing cur with
  | nil => simp
  | cons c w ih =>
    obtain ⟨hc, -⟩ := separator_eq_false_iff.mp (hw c List.mem_cons_self)
    rw [List.cons_append, wordsFrom, if_neg hc, ih fun c' hc' => hw c' (List.mem_cons_of_mem c hc')]
    simp

theorem wordsFrom_word_blank {w : List Char} (hw : IsWord w) (rest : List Char) :
    wordsFrom [] (w ++ ' ' :: rest) = w :: wordsFrom [] rest := by
  rw [wordsFrom_append hw.solid]
  simp [wordsFrom, hw.nonempty]

/-- The last word of a line, with or without a blank after it. -/
theorem wordsFrom_word_last {w tail : List Char} (hw : IsWord w) (htail : tail = [] ∨ tail = [' ']) :
    wordsFrom [] (w ++ tail) = [w] := by
  rw [wordsFrom_append hw.solid]
  rcases htail with rfl | rfl <;> simp [wordsFrom, hw.nonempty]

theorem cutComment_append {l : List Char} (hl : ';' ∉ l) (rest : List Char) :
    cutComment (l ++ rest) = l ++ cutComment rest := by
  induction l with
  | nil => rfl
  | cons c l ih =>
    obtain ⟨hc, hl'⟩ := not_or.mp (mt List.mem_cons.mpr hl)
    rw [List.cons_append, cutComment, if_neg (Ne.symm hc), ih hl', List.cons_append]

/-! Numbers. -/

theorem digitValue_of_isDigit {c : Char} (hc : c.isDigit = true) : digitValue 10 c = some (c.toNat - '0'.toNat) := by
  have hrange : 48 ≤ c.toNat ∧ c.toNat ≤ 57 := Char.isDigit_iff_toNat.mp hc
  have hval : c.toNat - 48 < 10 := by omega
  simp [digitValue, hrange, hval]

/-- Digits are read as the library reads them. -/
theorem digitsValue_eq_ofDigitChars {ds : List Char} (hds : ∀ c ∈ ds, c.isDigit = true) (acc : Nat) :
    digitsValue 10 acc ds = some (Nat.ofDigitChars 10 ds acc) := by
  induction ds generalizing acc with
  | nil => simp [digitsValue]
  | cons c ds ih =>
    rw [digitsValue, digitValue_of_isDigit (hds c List.mem_cons_self), Nat.ofDigitChars_cons, Nat.mul_comm 10]
    exact ih (fun c' hc' => hds c' (List.mem_cons_of_mem c hc')) _

theorem isDigit_of_mem_decimal {n : Nat} {c : Char} (hc : c ∈ Nat.toDigits 10 n) : c.isDigit = true :=
  Nat.isDigit_of_mem_toDigits (by decide) (by decide) hc

/-- Without an `x` in it a number is read in decimal. -/
theorem readNumber_eq_digitsValue {ds : List Char} (hne : ds ≠ []) (hx : 'x' ∉ ds) :
    readNumber ds = digitsValue 10 0 ds := by
  unfold readNumber
  split
  case h_1 => contradiction
  case h_2 => simp at hx
  case h_3 => simp at hx
  case h_4 => rfl

theorem readNumber_decimal (n : Nat) : readNumber (Nat.toDigits 10 n) = some n := by
  have hx : 'x' ∉ Nat.toDigits 10 n := fun hc => absurd (isDigit_of_mem_decimal hc) (by decide)
  rw [readNumber_eq_digitsValue Nat.toDigits_ne_nil hx, digitsValue_eq_ofDigitChars fun _ => isDigit_of_mem_decimal,
    Nat.ofDigitChars_ten_toDigits]

theorem separator_of_isDigit {c : Char} (hc : c.isDigit = true) : separator c = false := by
  by_contra hsep
  have hcases : (c = ' ' ∨ c = '\t') ∨ c = ';' := by simpa [separator] using Bool.eq_true_of_not_eq_false hsep
  rcases hcases with (rfl | rfl) | rfl <;> exact absurd hc (by decide)

theorem isWord_decimal (n : Nat) : IsWord (Nat.toDigits 10 n) :=
  ⟨Nat.toDigits_ne_nil, fun _ hc => separator_of_isDigit (isDigit_of_mem_decimal hc)⟩

/-! Operations. -/

theorem isWord_mnemonic (i : Instr) : IsWord i.mnemonic.toList := by
  constructor <;> cases i <;> simp [Instr.mnemonic, separator]

/-- The words of an operation's text (R91). -/
def Instr.words (i : Instr) : List (List Char) :=
  match i.operand with
  | some n => [i.mnemonic.toList, Nat.toDigits 10 n]
  | none => [i.mnemonic.toList]

theorem toList_text (i : Instr) : i.text.toList =
    i.mnemonic.toList ++ (match i.operand with | some n => ' ' :: Nat.toDigits 10 n | none => []) := by
  unfold Instr.text
  cases i.operand with
  | none => simp
  | some n => simp [String.toList_append, Nat.toList_repr]

theorem semicolon_not_mem {w : List Char} (hw : IsWord w) : ';' ∉ w :=
  fun hc => absurd (hw.solid _ hc) (by decide)

theorem semicolon_not_mem_text (i : Instr) : ';' ∉ i.text.toList := by
  have hm := semicolon_not_mem (isWord_mnemonic i)
  rw [toList_text]
  cases i.operand with
  | none => simpa using hm
  | some n => simpa [hm] using semicolon_not_mem (isWord_decimal n)

theorem wordsFrom_text (i : Instr) {tail : List Char} (htail : tail = [] ∨ tail = [' ']) :
    wordsFrom [] (i.text.toList ++ tail) = i.words := by
  rw [toList_text, Instr.words]
  cases i.operand with
  | none => simpa using wordsFrom_word_last (isWord_mnemonic i) htail
  | some n =>
    simp only [List.append_assoc, List.cons_append]
    rw [wordsFrom_word_blank (isWord_mnemonic i), wordsFrom_word_last (isWord_decimal n) htail]

theorem find?_plainOperations {i : Instr} (hi : i.operand = none) :
    plainOperations.find? (fun j => j.mnemonic.toList == i.mnemonic.toList) = some i := by
  cases i <;> simp [Instr.operand] at hi
  all_goals decide

theorem operationWith_operand {i : Instr} {n : Nat} (hi : i.operand = some n) :
    operationWith i.mnemonic.toList n = .ok i := by
  cases i <;> simp [Instr.operand] at hi <;> subst hi
  case setDuty v => simp [operationWith, Instr.mnemonic, v.isLt]
  case reqSleep d => cases d <;> simp [operationWith, Instr.mnemonic, Depth.code]
  case sleep d => cases d <;> simp [operationWith, Instr.mnemonic, Depth.code]
  case wakeup d => cases d <;> simp [operationWith, Instr.mnemonic, Depth.code]

/-- A line whose words are those of an operation is read as that operation. -/
theorem parseLine_of_words {line : String} {i : Instr} (h : wordsFrom [] (cutComment line.toList) = i.words) :
    parseLine line = .ok (some i) := by
  rw [parseLine, h, Instr.words]
  cases hi : i.operand with
  | none => simp [find?_plainOperations hi]
  | some n => simp [readNumber_decimal, operationWith_operand hi]

/-- The text of an operation, with a comment after a blank or with none. -/
theorem parseLine_text_append (i : Instr) {comment : String} {tail : List Char} (htail : tail = [] ∨ tail = [' '])
    (hcut : cutComment comment.toList = tail) : parseLine (i.text ++ comment) = .ok (some i) := by
  apply parseLine_of_words
  rw [String.toList_append, cutComment_append (semicolon_not_mem_text i), hcut, wordsFrom_text i htail]

end Sys2Proof

open Sys2Proof Sys2Proof.Machine in
/-- Settles O22: the text of an operation is one word or two, which no comment is part of; the mnemonics are told apart
by the tables, and decimal digits are read back as the number they were written from. -/
theorem operationTextReadsBack : Obligations.OperationTextReadsBack := by
  intro i
  have halone := parseLine_text_append i (comment := "") (.inl rfl) (by simp [cutComment])
  rw [String.append_empty] at halone
  exact ⟨halone, parseLine_text_append i (.inr rfl) (by simp [cutComment])⟩

end

section
/-! PROOF. The ownership table of 10_state.md R42 in full, and the operations not yet settled one by one: DEBOUNCE
(41_button.md R132), PWM_DISABLE (42_pwm.md R152), ARM_WAKE, DISARM_WAKE, SLEEP and WAKEUP (43_power.md R182, R191, R187,
R188). -/

namespace Sys2Proof.Machine

theorem ne_of_not_owned {r : Reg} {i j : Instr} (hi : ownedBy r i = false) (hj : ownedBy r j = true) : i ≠ j := by
  rintro rfl
  exact Bool.false_ne_true (hi.symm.trans hj)

/-- An operation that does not own PWM_CMP leaves it to the wrap-around latch, or keeps it as PWM_DISABLE does. -/
theorem pwmCmp_exec_of_not_owned {i : Instr} {s t : State} (h : exec i s = .next t) (hown : ownedBy .pwmCmp i = false) :
    t.pwmCmp = s.pwmCmp ∨ (s.pwmWraps = true ∧ t.pwmCmp = s.pwmCmpBuf) := by
  by_cases hdis : i = .pwmDisable
  · subst hdis
    obtain ⟨-, -, -, hcmp⟩ := exec_pwmDisable_writes h
    exact .inl hcmp
  · rw [(pwmRan_exec h (ne_of_not_owned hown rfl) hdis).cmp, pwmRun_cmp_eq]
    cases s.pwmWraps
    · exact .inl rfl
    · exact .inr ⟨rfl, rfl⟩

/-! The countdown (44_sequencer.md R222). -/

theorem countdown_of_waiting {s : State} (hdly : 1 < s.dly) :
    s.countdownDone = false ∧ s.countdownDly = s.dly - 1 := by
  simp [State.countdownDone, State.countdownDly, hdly]

theorem countdown_of_expired {s : State} (hdly : s.dly ≤ 1) : s.countdownDone = true ∧ s.countdownDly = 0 := by
  simp [State.countdownDone, State.countdownDly, hdly]

/-! Who issues the operations (30_encoding.md R84). `issuedAt_debounce` stands with the button. -/

theorem op_eq_pwmDisable_iff (s : State) : s.op = .pwmDisable ↔ s.seq = .sOffPwm ∨ s.seq = .sDeepPwm := by
  cases hq : s.seq <;> simp [State.op, hq]

theorem issuedAt_armWake : IssuedAt .armWake .sArm := by
  intro s; cases hq : s.seq <;> simp [State.op, hq]

theorem issuedAt_disarmWake : IssuedAt .disarmWake .sWakeDisarm := by
  intro s; cases hq : s.seq <;> simp [State.op, hq]

theorem op_eq_sleep_iff (s : State) (d : Depth) : s.op = .sleep d ↔ s.seq = .sSleep ∧ d = s.pstate := by
  cases hq : s.seq <;> simp [State.op, hq, eq_comm]

theorem op_eq_wakeup_iff (s : State) (d : Depth) : s.op = .wakeup d ↔ s.seq = .sWakeup ∧ d = s.pstate := by
  cases hq : s.seq <;> simp [State.op, hq, eq_comm]

/-! What the operations own (10_state.md R42). -/

theorem ownedBy_debounce_iff (r : Reg) : ownedBy r .debounce = true ↔ r = .dly ∨ r = .btnRaw ∨ r = .pressed := by
  cases r <;> decide

theorem eq_pwmEn_of_pwmDisable_owned {r : Reg} (hown : ownedBy r .pwmDisable = true) (hbg : r ∉ backgroundRegs) :
    r = .pwmEn := by
  revert hown hbg; cases r <;> decide

theorem eq_pcie_of_owned {i : Instr} (hi : i = .armWake ∨ i = .disarmWake) {r : Reg} (hown : ownedBy r i = true) :
    r = .pcie := by
  revert hown
  obtain rfl | rfl := hi <;> cases r <;> decide

theorem eq_dly_of_sleep_owned {d : Depth} {r : Reg} (hown : ownedBy r (.sleep d) = true) : r = .dly := by
  cases r <;> simp [ownedBy] at hown ⊢

theorem eq_dly_of_wakeup_owned {d : Depth} {r : Reg} (hown : ownedBy r (.wakeup d) = true) : r = .dly := by
  cases r <;> simp [ownedBy] at hown ⊢

/-! The values that the operations write, and the frames that depend on them. -/

section Exec

variable {s t : State} {d : Depth}

theorem exec_debounce_writes (h : exec .debounce s = .next t) :
    t.dly = s.countdownDly ∧ t.btnRaw = (if s.countdownDone then s.btn else s.btnRaw) ∧
      t.pressed = if s.countdownDone then !s.btn else s.pressed := by
  obtain rfl := eq_tick_of_exec h
  simp [State.writes]

theorem kept_exec_debounce (h : exec .debounce s = .next t) : Kept s t [.dly, .btnRaw, .pressed] :=
  kept_exec h fun r hown _ => by simpa using (ownedBy_debounce_iff r).mp hown

/-- Before the expiry DEBOUNCE takes no sample, so DLY is all it changes. -/
theorem kept_exec_debounce_of_waiting (h : exec .debounce s = .next t) (hdly : 1 < s.dly) : Kept s t [.dly] := by
  intro r hr hbg
  obtain ⟨hdone, -⟩ := countdown_of_waiting hdly
  obtain ⟨-, hraw, hpressed⟩ := exec_debounce_writes h
  by_cases hb : r = .btnRaw
  · simp [hb, State.read, hraw, hdone]
  by_cases hpr : r = .pressed
  · simp [hpr, State.read, hpressed, hdone]
  · exact kept_exec_debounce h r (by simpa [hb, hpr] using hr) hbg

theorem exec_debounce_seq (h : exec .debounce s = .next t) (hq : s.seq = .sDebounce) :
    t.seq = if s.countdownDone then .sAdvance else .sDebounce := by
  rw [exec_seq _ _ _ h, hq]
  rfl

theorem kept_exec_pwmDisable (h : exec .pwmDisable s = .next t) : Kept s t [.pwmEn] :=
  kept_exec h fun r hown hbg => by simp [eq_pwmEn_of_pwmDisable_owned hown hbg]

/-- With the PWM stopped only LED_FORCE drives the pin (42_pwm.md R156). -/
theorem exec_pwmDisable_led (h : exec .pwmDisable s = .next t) : t.led = s.ledForce := by
  obtain rfl := eq_tick_of_exec h
  simp [State.led, State.pwmOut, State.writes]

theorem exec_armWake_pcie (h : exec .armWake s = .next t) : t.pcie = true := by cases h; rfl

theorem exec_disarmWake_pcie (h : exec .disarmWake s = .next t) : t.pcie = false := by cases h; rfl

theorem exec_sleep_dly (h : exec (.sleep d) s = .next t) :
    t.dly = if s.wake then s.params.wakeLatency s.pstate else s.dly := by
  obtain rfl := eq_tick_of_exec h
  simp [State.writes]

/-- Without a wake SLEEP writes nothing, DLY included. -/
theorem kept_exec_sleep_of_no_wake (h : exec (.sleep d) s = .next t) (hw : s.wake = false) : Kept s t [] := by
  intro r _ hbg
  by_cases hr : r = .dly
  · simp [hr, State.read, exec_sleep_dly h, hw]
  · exact kept_exec_of_owns_one h (fun _ => eq_dly_of_sleep_owned) r (by simpa using hr) hbg

theorem exec_sleep_seq (h : exec (.sleep d) s = .next t) (hq : s.seq = .sSleep) :
    t.seq = if s.wake then .sWakeup else .sSleep := by
  rw [exec_seq _ _ _ h, hq]
  rfl

theorem exec_wakeup_dly (h : exec (.wakeup d) s = .next t) : t.dly = s.countdownDly := by cases h; rfl

theorem exec_wakeup_seq (h : exec (.wakeup d) s = .next t) (hq : s.seq = .sWakeup) :
    t.seq = if s.countdownDone then .sWakeCli else .sWakeup := by
  rw [exec_seq _ _ _ h, hq]
  rfl

end Exec

theorem wakeLatency_eq_ite (p : Params) (d : Depth) :
    p.wakeLatency d = if d = .deepest then p.tWakeDeep else p.tWakeIdle := by
  cases d <;> rfl

end Sys2Proof.Machine

open Sys2Proof Sys2Proof.Machine in
/-- Settles O28: outside the background registers the frame of the table; each background register by its own rule,
where the operation is none of those that own it. -/
theorem writeOwnership : Obligations.WriteOwnership := by
  intro i s t r h hown
  refine ⟨read_exec_of_not_owned h hown, ?_, ?_, ?_, ?_, fun _ => exec_seq i s t h, (sampled_exec h).btnPrev⟩
  · rintro rfl
    exact (pwmRan_exec h (ne_of_not_owned hown rfl) (ne_of_not_owned hown rfl)).pre
  · rintro rfl
    exact (pwmRan_exec h (ne_of_not_owned hown rfl) (ne_of_not_owned hown rfl)).cnt
  · rintro rfl
    exact pwmCmp_exec_of_not_owned h hown
  · rintro rfl
    exact flagSetOrKept_exec h (ne_of_not_owned hown rfl)

open Sys2Proof Sys2Proof.Machine in
/-- Settles O5: DEBOUNCE owns three registers, of which it writes DLY alone until its expiry. -/
theorem debounceTakesSecondSample : Obligations.DebounceTakesSecondSample := by
  refine ⟨rfl, issuedAt_debounce, fun s => ?_⟩
  obtain ⟨t, h⟩ := exec_answers .debounce s
  obtain ⟨hdly', hraw, hpressed⟩ := exec_debounce_writes h
  have hseq := exec_debounce_seq h
  refine ⟨t, h, background_exec h (by simp) (by simp) (by simp), fun hdly => ?_, fun hdly => ?_⟩
  · obtain ⟨hdone, hless⟩ := countdown_of_waiting hdly
    exact ⟨hdly'.trans hless, kept_exec_debounce_of_waiting h hdly, by simpa [hdone] using hseq⟩
  · obtain ⟨hdone, hzero⟩ := countdown_of_expired hdly
    rw [hdone] at hraw hpressed hseq
    exact ⟨hdly'.trans hzero, hraw, by simp [hpressed], kept_exec_debounce h, hseq⟩

open Sys2Proof Sys2Proof.Machine in
/-- Settles O9: the writes of PWM_DISABLE stand over the free-running update, and with PWM_EN at 0 the comparator is
low. -/
theorem pwmDisableStopsCounter : Obligations.PwmDisableStopsCounter := by
  refine ⟨rfl, op_eq_pwmDisable_iff, fun s => ?_⟩
  obtain ⟨t, h⟩ := exec_answers .pwmDisable s
  obtain ⟨hen, hpre, hcnt, hcmp⟩ := exec_pwmDisable_writes h
  refine ⟨t, h, sampled_exec h, flagSetOrKept_exec h (by simp), hen, hpre, hcnt, hcmp, exec_pwmDisable_led h,
    kept_exec_pwmDisable h, fun hq => ?_, fun hq => ?_⟩ <;>
  · rw [exec_seq _ _ _ h, hq]
    rfl

open Sys2Proof Sys2Proof.Machine in
/-- Settles O12: the two operations own PCIE alone, and the detector reads PCIE as it was before the tick. -/
theorem armAndDisarmWritePcie : Obligations.ArmAndDisarmWritePcie := by
  refine ⟨⟨rfl, issuedAt_armWake, fun s => ?_⟩, rfl, issuedAt_disarmWake, fun s => ?_⟩
  · obtain ⟨t, h⟩ := exec_answers .armWake s
    have hbg : Background s t := background_exec h (by simp) (by simp) (by simp)
    refine ⟨t, h, exec_armWake_pcie h, fun hoff => ?_, hbg,
      kept_exec_of_owns_one h fun _ => eq_pcie_of_owned (by simp), fun hq => by rw [exec_seq _ _ _ h, hq]; rfl⟩
    rw [hbg.flag, hoff, Bool.false_and, Bool.or_false]
  · obtain ⟨t, h⟩ := exec_answers .disarmWake s
    have hbg : Background s t := background_exec h (by simp) (by simp) (by simp)
    refine ⟨t, h, exec_disarmWake_pcie h, fun hon hedge => ?_, hbg,
      kept_exec_of_owns_one h fun _ => eq_pcie_of_owned (by simp), fun hq => by rw [exec_seq _ _ _ h, hq]; rfl⟩
    rw [hbg.flag, hon]
    simp [State.edge, hedge]

open Sys2Proof Sys2Proof.Machine in
/-- Settles O13: SLEEP owns DLY alone, which it loads on a wake; the wake condition is that of `State.wake`. -/
theorem sleepStaysOrWakes : Obligations.SleepStaysOrWakes := by
  refine ⟨fun d => ?_, op_eq_sleep_iff, fun d s => ?_⟩
  · rw [toNat_encode, Instr.arg, d.toNat_zeroExtend_code]
    rfl
  · obtain ⟨t, h⟩ := exec_answers (.sleep d) s
    have hseq := exec_sleep_seq h
    simp only [← wake_iff, ← wakeLatency_eq_ite, Bool.not_eq_true]
    refine ⟨t, h, background_exec h (by simp) (by simp) (by simp), fun hw => ?_, fun hw => ?_⟩
    · rw [hw] at hseq
      exact ⟨by simp [exec_sleep_dly h, hw], kept_exec_of_owns_one h fun _ => eq_dly_of_sleep_owned, hseq⟩
    · rw [hw] at hseq
      exact ⟨kept_exec_sleep_of_no_wake h hw, hseq⟩

open Sys2Proof Sys2Proof.Machine in
/-- Settles O14: WAKEUP owns DLY alone, and its successor is decided by the countdown. -/
theorem wakeupCountsDown : Obligations.WakeupCountsDown := by
  refine ⟨fun d => ?_, op_eq_wakeup_iff, fun d s => ?_⟩
  · rw [toNat_encode, Instr.arg, d.toNat_zeroExtend_code]
    rfl
  · obtain ⟨t, h⟩ := exec_answers (.wakeup d) s
    have hseq := exec_wakeup_seq h
    refine ⟨t, h, background_exec h (by simp) (by simp) (by simp),
      kept_exec_of_owns_one h fun _ => eq_dly_of_wakeup_owned, fun hdly => ?_, fun hdly => ?_⟩
    · obtain ⟨hdone, hless⟩ := countdown_of_waiting hdly
      exact ⟨(exec_wakeup_dly h).trans hless, by simpa [hdone] using hseq⟩
    · obtain ⟨hdone, hzero⟩ := countdown_of_expired hdly
      exact ⟨(exec_wakeup_dly h).trans hzero, by simpa [hdone] using hseq⟩

end

section
/-! PROOF. Sleep and wake (43_power.md sections 4 and 5, 60_exceptions.md section 1): a wake reaches the poll, an armed
edge is not missed, and a sleep without an event changes nothing but the running PWM. -/

namespace Sys2Proof.Machine

/-! At the poll. -/

/-- At S_POLL the wake source is disarmed, interrupts are on, the timer runs and the PWM follows the mode. -/
theorem State.Inv.at_poll {s : State} (h : s.Inv) (hq : s.seq = .sPoll) :
    s.pcie = false ∧ s.gie = true ∧ s.bgRun = true ∧ (s.pwmEn = true ↔ s.mode ≠ .off) := by
  refine ⟨?_, ?_, ?_, h.pwm (by rw [hq]; rfl)⟩
  · rw [h.pcie, hq]; rfl
  · rw [h.gie, hq]; rfl
  · rw [h.bgRun, hq]; rfl

theorem Params.one_le_wakeLatency {p : Params} (hp : p.wf = true) (d : Depth) : 1 ≤ p.wakeLatency d :=
  one_le_dlyMaxAt hp d (q := .sWakeup) rfl

/-! An armed edge (60_exceptions.md section 1). -/

/-- The sequencer states from SELECT to SLEEP, in which the wake source is armed and PCIF is not cleared. -/
def armedAsleepAt (q : Seq) : Bool := q == .sSelect || q == .sDeepBg || q == .sDeepPwm || q == .sSleep

/-- How many ticks S_SLEEP is away, at most. -/
def ticksFromArmed : Seq → Nat
  | .sSelect => 3
  | .sDeepBg => 2
  | .sDeepPwm => 1
  | _ => 0

theorem of_armedAsleepAt_successor {q : Seq} (sig : Signals) (hq : armedAsleepAt q = true) (hsleep : q ≠ .sSleep) :
    armedAsleepAt (successor q sig) = true ∧ ticksFromArmed (successor q sig) < ticksFromArmed q := by
  obtain ⟨done, taken⟩ := sig
  revert hq hsleep
  cases q <;> cases done <;> cases taken <;> decide

theorem pcieAt_of_armedAsleepAt {q : Seq} (hq : armedAsleepAt q = true) : pcieAt q = true := by
  revert hq
  cases q <;> decide

theorem ne_wakeClrf_of_armedAsleepAt {q : Seq} (hq : armedAsleepAt q = true) : q ≠ .sWakeClrf := by
  rintro rfl
  exact absurd hq (by decide)

theorem ticksFromArmed_le (q : Seq) : ticksFromArmed q ≤ 3 := by cases q <;> decide

/-- While armed and asleep or on the way, PCIF collects the edges (41_button.md R134). -/
theorem State.Inv.next_pcif_of_armed {s : State} (h : s.Inv) (hp : s.por = false) (hq : armedAsleepAt s.seq = true) :
    s.next.pcif = (s.pcif || s.edge) := by
  have hclr : s.op ≠ .clrWakeFlag := by
    rw [Ne, issuedAt_clrWakeFlag s]
    exact ne_wakeClrf_of_armedAsleepAt hq
  rw [next_pcif s hp, if_neg hclr, h.pcie, pcieAt_of_armedAsleepAt hq, Bool.true_and]

theorem State.Inv.next_of_flagged_sleep {s : State} (h : s.Inv) (hp : s.por = false) (hq : s.seq = .sSleep)
    (hset : s.pcif = true) : s.next.seq = .sWakeup := by
  rw [next_seq_of_sleep hq hp, h.wake_of_flag hq hset]
  rfl

/-- A recorded edge is not lost on the way to S_SLEEP, and ends the sleep in its first tick. -/
theorem State.Inv.exists_wakeup_of_flag {s : State} (h : s.Inv) {n : Nat} (hset : s.pcif = true)
    (hq : armedAsleepAt s.seq = true) (hn : ticksFromArmed s.seq ≤ n) (hpow : s.Powered (n + 1)) :
    ∃ k, k ≤ n + 1 ∧ (s.sigma k).seq = .sWakeup := by
  induction n generalizing s with
  | zero =>
    have hsleep : s.seq = .sSleep := by
      by_contra hne
      obtain ⟨-, hlt⟩ := of_armedAsleepAt_successor {} hq hne
      omega
    exact ⟨1, le_rfl, h.next_of_flagged_sleep (hpow 0 Nat.one_pos) hsleep hset⟩
  | succ n ih =>
    have hp : s.por = false := hpow 0 (Nat.succ_pos _)
    by_cases hsleep : s.seq = .sSleep
    · exact ⟨1, by omega, h.next_of_flagged_sleep hp hsleep hset⟩
    · obtain ⟨hq', hlt⟩ := of_armedAsleepAt_successor (s.signals s.op) hq hsleep
      rw [← next_seq s hp] at hq' hlt
      have hset' : s.next.pcif = true := by simp [h.next_pcif_of_armed hp hq, hset]
      obtain ⟨k, hk, hup⟩ := ih h.next hset' hq' (by omega) (powered_sigma s _ 1 _ hpow (by omega))
      exact ⟨k + 1, by omega, by rw [sigma_next]; exact hup⟩

/-- The tick of the edge: the sleep ends there already, or the edge is recorded with S_SLEEP still to come or to go
on. -/
theorem State.Inv.next_of_armed_edge {s : State} (h : s.Inv) (hp : s.por = false) (hq : armedAsleepAt s.seq = true)
    (hedge : s.btn ≠ s.btnPrev) :
    s.next.seq = .sWakeup ∨ (s.next.pcif = true ∧ armedAsleepAt s.next.seq = true) := by
  have hset : s.next.pcif = true := by simp [h.next_pcif_of_armed hp hq, State.edge, hedge]
  by_cases hsleep : s.seq = .sSleep
  · cases hw : s.wake
    · exact .inr ⟨hset, by rw [next_seq_of_sleep hsleep hp, hw]; rfl⟩
    · exact .inl (by rw [next_seq_of_sleep hsleep hp, hw]; rfl)
  · rw [next_seq s hp]
    exact .inr ⟨hset, (of_armedAsleepAt_successor _ hq hsleep).1⟩

/-! A sleep without an event. -/

/-- The PWM unit run alone changes three registers. -/
theorem pwmAlone_eq_update (s : State) (n : Nat) :
    ∃ pre cnt cmp, s.pwmAlone n = { s with pwmPre := pre, pwmCnt := cnt, pwmCmp := cmp } := by
  induction n with
  | zero => exact ⟨_, _, _, rfl⟩
  | succ n ih =>
    obtain ⟨pre, cnt, cmp, heq⟩ := ih
    rw [State.pwmAlone, heq]
    rcases pwmRun_cases { s with pwmPre := pre, pwmCnt := cnt, pwmCmp := cmp } with
      ⟨-, hrun⟩ | ⟨-, hrun⟩ | ⟨-, -, -, hrun⟩ | ⟨-, -, hrun⟩ <;>
    · rw [hrun]
      exact ⟨_, _, _, rfl⟩

theorem pwmRun_with_bookkeeping (s : State) (ins : List Inputs) (e : Nat) :
    ({ s with inputs := ins, edges := e } : State).pwmRun = { s.pwmRun with inputs := ins, edges := e } := by
  unfold State.pwmRun
  dsimp only
  repeat' split
  all_goals rfl

/-- No wake source: no recorded edge, and no background tick at idle depth (43_power.md R187). -/
theorem wake_eq_false_of_quiet {s : State} (hflag : s.pcif = false) (htick : s.pstate = .idle → s.bgTick = false) :
    s.wake = false := by
  cases hd : s.pstate
  · simp [State.wake, hflag, htick hd]
  · exact wake_eq_false_of_deepest hd hflag

/-- A tick of sleep without a wake and without an edge is the free-running update alone. -/
theorem next_of_quiet_sleep {s : State} (hq : s.seq = .sSleep) (hp : s.por = false) (hw : s.wake = false)
    (hflag : s.pcif = false) (hedge : s.btn = s.btnPrev) :
    s.next = { s.pwmRun with inputs := s.inputs.tail, edges := s.edges + 1 } := by
  rw [next_eq_tick s hp, (op_eq_sleep_iff s _).mpr ⟨hq, rfl⟩]
  simp [State.tick, State.finish, State.writes, State.signals, State.freeRun, State.edge, successor, hq, hw, hflag,
    hedge]

/-- While no event comes, the block is the PWM unit run alone, but for the inputs used up. -/
theorem sigma_of_quiet_sleep {s : State} {n : Nat} (hq : s.seq = .sSleep) (hflag : s.pcif = false)
    (hin : ∀ j, j < n → (s.inputAt j).por = false ∧ (s.inputAt j).btn = s.btnPrev ∧
      (s.pstate = .idle → (s.inputAt j).bgTick = false)) :
    s.sigma n = { s.pwmAlone n with inputs := (s.sigma n).inputs, edges := (s.sigma n).edges } := by
  induction n with
  | zero => rfl
  | succ n ih =>
    have heq := ih fun j hj => hin j (Nat.lt_succ_of_lt hj)
    obtain ⟨pre, cnt, cmp, halone⟩ := pwmAlone_eq_update s n
    obtain ⟨hp, hb, htick⟩ := hin n (Nat.lt_succ_self n)
    have hkept : (s.sigma n).seq = s.seq ∧ (s.sigma n).pcif = s.pcif ∧ (s.sigma n).btnPrev = s.btnPrev ∧
        (s.sigma n).pstate = s.pstate := by
      rw [heq, halone]
      exact ⟨rfl, rfl, rfl, rfl⟩
    obtain ⟨hseqn, hflagn, hprevn, hdepthn⟩ := hkept
    have hpn : (s.sigma n).por = false := by rwa [State.por, inputAt_sigma]
    have hedgen : (s.sigma n).btn = (s.sigma n).btnPrev := by rwa [State.btn, inputAt_sigma, hprevn]
    have hwn : (s.sigma n).wake = false := by
      refine wake_eq_false_of_quiet (hflagn.trans hflag) fun hd => ?_
      rw [State.bgTick, inputAt_sigma]
      exact htick (hdepthn.symm.trans hd)
    have hrun : (s.sigma n).pwmRun =
        { (s.pwmAlone n).pwmRun with inputs := (s.sigma n).inputs, edges := (s.sigma n).edges } :=
      (congrArg State.pwmRun heq).trans (pwmRun_with_bookkeeping _ _ _)
    rw [State.sigma, next_of_quiet_sleep (hseqn.trans hq) hpn hwn (hflagn.trans hflag) hedgen, hrun]
    rfl

end Sys2Proof.Machine

open Sys2Proof Sys2Proof.Machine in
/-- Settles O51: the sleep is a single tick more, so the stretches of S_WAKEUP and of the protocol follow at once; at
S_POLL the invariant gives the registers. -/
theorem wakeReachesPoll : Obligations.WakeReachesPoll := by
  intro s hinv hq hwake hpow
  generalize hl : s.params.wakeLatency s.pstate = l at hpow ⊢
  have hlpos : 1 ≤ l := hl ▸ Params.one_le_wakeLatency hinv.inRange.params s.pstate
  have hstay : ∀ j, j + 1 < 1 → (s.sigma j).wake = false := fun j hj => absurd hj (by omega)
  rw [show l + 6 = 1 + l + 5 by omega] at hpow ⊢
  obtain ⟨hup, -⟩ := sigma_wakeup_stretch hq hl.symm hlpos le_rfl hstay hwake fun j hj => hpow j (by omega)
  have hpoll := sigma_poll_of_sleep hq hl.symm hlpos le_rfl hpow hstay hwake
  have hmode := sigma_mode_of_sleep_to_poll hq hl.symm hlpos le_rfl hstay hwake hpow
  obtain ⟨hpcie, hgie, hrun, hpwm⟩ := (hinv.sigma (1 + l + 5)).at_poll hpoll
  obtain ⟨-, hpwm0, -⟩ := hinv.asleep (.inl hq)
  refine ⟨fun j hpos hj => hup j hpos (by omega), hpoll, hpcie, hgie, hrun, ?_, hmode⟩
  rw [Bool.eq_iff_iff, hpwm, hpwm0, hmode]

open Sys2Proof Sys2Proof.Machine in
/-- Settles O52: the edge is recorded in its own tick unless the sleep ends there, and a recorded edge is kept until
S_SLEEP, which it ends. -/
theorem armedEdgeEndsSleep : Obligations.ArmedEdgeEndsSleep := by
  intro s hinv hpow hedge hq
  have harmed : armedAsleepAt s.seq = true := by rcases hq with hq | hq | hq | hq <;> rw [hq] <;> rfl
  rcases hinv.next_of_armed_edge (hpow 0 (by omega)) harmed hedge with hup | ⟨hset, harmed'⟩
  · exact ⟨1, by omega, hup⟩
  · obtain ⟨k, hk, hup⟩ := hinv.next.exists_wakeup_of_flag hset harmed' (ticksFromArmed_le _)
      (powered_sigma s _ 1 _ hpow (by omega))
    exact ⟨k + 1, by omega, by rw [sigma_next]; exact hup⟩

open Sys2Proof Sys2Proof.Machine in
/-- Settles O53: the run is that of the PWM unit alone, which in deepest sleep is stopped (10_state.md R45 (f)). -/
theorem sleepWithoutEventGoesOn : Obligations.SleepWithoutEventGoesOn := by
  intro s n hinv hq hflag hin
  have hrun := sigma_of_quiet_sleep hq hflag hin
  have hread (r : Reg) : (s.sigma n).read r = (s.pwmAlone n).read r := by
    rw [hrun]; cases r <;> rfl
  refine ⟨fun hd r => ?_, fun hd => ⟨fun r hr => ?_, ?_, ?_, ?_⟩⟩
  · obtain ⟨hen, -⟩ := hinv.facts.f_deepest (.inl hq) hd
    rw [hread, pwmAlone_of_disabled hen]
  · obtain ⟨pre, cnt, cmp, halone⟩ := pwmAlone_eq_update s n
    rw [hread, halone]
    cases r <;> simp [State.read] at hr ⊢
  all_goals rw [hrun]

end

section
/-! PROOF. Non-interference: BTN_RAW reaches no other register and no output (10_state.md R29), and the background tick
reaches nothing but the wake condition of an unmasked idle sleep (60_exceptions.md section 2). Each follows a tick from two
states that differ in that one value, part by part. -/

namespace Sys2Proof.Machine

/-! BTN_RAW. -/

theorem freeRun_with_btnRaw (s : State) (b : Bool) :
    ({ s with btnRaw := b } : State).freeRun = { s.freeRun with btnRaw := b } := by
  unfold State.freeRun State.pwmRun
  dsimp only
  repeat' split
  all_goals rfl

/-- No operation reads BTN_RAW: it writes the same over any value of it. -/
theorem writes_with_btnRaw (s t : State) (b : Bool) (i : Instr) :
    ∃ b', ({ s with btnRaw := b } : State).writes i { t with btnRaw := b } = { s.writes i t with btnRaw := b' } := by
  cases i <;> exact ⟨_, rfl⟩

theorem next_with_btnRaw (s : State) (b : Bool) :
    ∃ b', ({ s with btnRaw := b } : State).next = { s.next with btnRaw := b' } := by
  cases hp : s.por
  case true =>
    rw [next_of_por s hp, next_of_por { s with btnRaw := b } hp]
    exact ⟨true, rfl⟩
  case false =>
    obtain ⟨b', hwrites⟩ := writes_with_btnRaw s s.freeRun b s.op
    refine ⟨b', ?_⟩
    have hsig : ({ s with btnRaw := b } : State).signals s.op = s.signals s.op := by cases s.op <;> rfl
    calc ({ s with btnRaw := b } : State).next
      _ = ({ s with btnRaw := b } : State).tick (({ s with btnRaw := b } : State).signals s.op)
            (({ s with btnRaw := b } : State).writes s.op) := next_eq_tick _ hp
      _ = s.finish (s.signals s.op)
            (({ s with btnRaw := b } : State).writes s.op ({ s with btnRaw := b } : State).freeRun) := by
          rw [hsig]; rfl
      _ = { s.next with btnRaw := b' } := by
          rw [freeRun_with_btnRaw, hwrites, next_eq_tick s hp]; rfl

theorem sigma_with_btnRaw (s : State) (b : Bool) (n : Nat) :
    ∃ b', ({ s with btnRaw := b } : State).sigma n = { s.sigma n with btnRaw := b' } := by
  induction n with
  | zero => exact ⟨b, rfl⟩
  | succ n ih =>
    obtain ⟨b', heq⟩ := ih
    rw [State.sigma, heq]
    exact next_with_btnRaw (s.sigma n) b'

/-! The background tick. -/

section BgTick

variable {s : State} {ins : List Inputs} (hpor : ({ s with inputs := ins } : State).por = s.por)
  (hbtn : ({ s with inputs := ins } : State).btn = s.btn) (htail : ins.tail = s.inputs.tail)

include hbtn htail in
/-- What every tick does reads no other input than the pin. -/
theorem freeRun_with_inputs : ({ s with inputs := ins } : State).freeRun = s.freeRun := by
  unfold State.freeRun State.pwmRun
  dsimp only
  rw [hbtn, htail]
  repeat' split
  all_goals rfl

variable (hwake : ({ s with inputs := ins } : State).wake = s.wake ∨ s.seq ≠ .sSleep)

include hbtn hwake in
/-- The issued operation reads the pin, and in SLEEP the wake condition. -/
theorem signals_writes_with_inputs :
    ({ s with inputs := ins } : State).signals s.op = s.signals s.op ∧
      ({ s with inputs := ins } : State).writes s.op = s.writes s.op := by
  cases hop : s.op
  case sleep d =>
    obtain ⟨hq, -⟩ := (op_eq_sleep_iff s d).mp hop
    have hw := hwake.resolve_right (not_not.mpr hq)
    exact ⟨by simp only [State.signals, hw], by funext t; simp only [State.writes, hw]⟩
  case poll =>
    exact ⟨by simp only [State.signals, State.pollTaken, hbtn], by funext t; simp only [State.writes, hbtn]⟩
  case debounce => exact ⟨rfl, by funext t; simp only [State.writes, hbtn]; rfl⟩
  all_goals exact ⟨rfl, rfl⟩

include hbtn in
theorem edge_with_inputs : ({ s with inputs := ins } : State).edge = s.edge := by
  simp only [State.edge, hbtn]

include hpor hbtn htail hwake in
/-- A step reads `por`, the pin, the samples to come, and in S_SLEEP the wake condition, but nothing else of the
inputs. -/
theorem step_with_inputs : step { s with inputs := ins } = step s := by
  rw [step_eq_next, step_eq_next]
  cases hp : s.por
  case true => rw [next_of_por _ (hpor.trans hp), next_of_por s hp, State.powerOn, State.powerOn, htail]
  case false =>
    obtain ⟨hsig, hwrites⟩ := signals_writes_with_inputs hbtn hwake
    have hop : ({ s with inputs := ins } : State).op = s.op := rfl
    rw [next_eq_tick _ (hpor.trans hp), next_eq_tick s hp, hop, hsig, hwrites, State.tick, State.tick,
      freeRun_with_inputs hbtn htail, State.finish, State.finish, edge_with_inputs hbtn]

end BgTick

/-- A masked wake condition, or one without the timer source, does not read the background tick. -/
theorem wake_with_inputs {s : State} (h : s.pstate = .deepest ∨ s.bgRun = false ∨ s.gie = false) (ins : List Inputs) :
    ({ s with inputs := ins } : State).wake = s.wake := by
  simp only [State.wake]
  rcases h with h | h | h <;> rw [h]
  · rfl
  · simp
  · simp

end Sys2Proof.Machine

open Sys2Proof Sys2Proof.Machine in
/-- Settles O43: along a run the two states stay equal but for BTN_RAW, which neither another register nor an output
port shows. -/
theorem btnRawIsReadByNothing : Obligations.BtnRawIsReadByNothing := by
  intro s b n
  obtain ⟨b', heq⟩ := sigma_with_btnRaw s b n
  rw [heq]
  refine ⟨fun r hr => ?_, rfl⟩
  cases r
  case btnRaw => exact absurd rfl hr
  all_goals rfl

open Sys2Proof Sys2Proof.Machine in
/-- Settles O55: the two states differ in the background tick of this edge, which a step reads in the wake condition
only, and that condition not at all where it is masked or the timer is no source. -/
theorem bgTickIsIgnoredOutsideIdleSleep : Obligations.BgTickIsIgnoredOutsideIdleSleep := by
  intro s i j rest hpor hbtn hquiet
  refine step_with_inputs (s := { s with inputs := j :: rest }) hpor hbtn rfl ?_
  rcases hquiet with hq | hmasked
  · exact .inr hq
  · exact .inl ((wake_with_inputs hmasked (i :: rest)).trans (wake_with_inputs hmasked (j :: rest)).symm)

end
